-- ==== Sys2Proof/Word.lean ====
section
/-! DEFINITION. The word types of PWM8 (00_scope.md R7, 30_encoding.md R58 R59). Bits are numbered from 0 at the
least significant bit (R10); every value is unsigned. -/

namespace Sys2Proof

/-- A waveform sample, a duty cycle, the port lines: 8 bits (R7). -/
abbrev Byte := BitVec 8

/-- A host register, a command word, a Device error code: 32 bits (R7). -/
abbrev Word := BitVec 32

/-- A HOSTBUS transaction descriptor: 48 bits (R59). -/
abbrev Descriptor := BitVec 48

end Sys2Proof
end

