-- ==== Sys2Proof/Syntax.lean ====
section
/-! DEFINITION. The instructions of spec/opcode_table.json, the raw words they are read from, the registers of the
host window, and the operations of a host program (30_encoding.md, 10_state.md R18). -/

namespace Sys2Proof

/-- The width of a host access: the SZ field, log2 of the number of bytes (R59). -/
inductive Width where
  | b1 | b2 | b4 | b8
  deriving DecidableEq, Repr, Inhabited

/-- One constructor per row of the opcode table. The four commands have no operand field: their operands are the
latches (R58, R60). A host access carries its width, its offset in the window and, for a write, the data (R59). -/
inductive Instr where
  /-- OPEN, CMD word 0x00000001 (R89). -/
  | cmdOpen
  /-- START, CMD word 0x00000002 (R91). -/
  | cmdStart
  /-- UPDATE, CMD word 0x00000003 (R92). -/
  | cmdUpdate
  /-- CLOSE, CMD word 0x00000004 (R94). -/
  | cmdClose
  /-- RD, a host read (R106). -/
  | rd (width : Width) (off : Byte)
  /-- WR, a host write (R107). -/
  | wr (width : Width) (off : Byte) (data : Word)
  deriving DecidableEq, Repr

/-- The two formats in which an instruction reaches the machine: a word in S.L_CMD (R58), or a descriptor of the host
program (R59). Neither is stored as bytes: PWM8 has no byte order (20_memory.md R43; log 20). -/
inductive RawInstr where
  | cmd (w : Word)
  | hostbus (d : Descriptor)
  deriving DecidableEq, Repr

/-- Why a CMD word is illegal (R63). -/
inductive CmdError where
  /-- bits [31:4] are not all 0 -/
  | reservedBits
  /-- OP is 0 or in 5..15 -/
  | reservedOpcode
  deriving DecidableEq, Repr

/-- Why a descriptor is not well-formed (R59). -/
inductive HostbusError where
  /-- RSV, bits [46:42], is not 0 -/
  | reservedBits
  /-- W = 0 and DATA is not 0 -/
  | readData
  deriving DecidableEq, Repr

/-- The sixteen registers of the host window (R18). -/
inductive Reg where
  | cmd | status | errCode | fault | portId | sampleRate | sampleCount | dcLo | dcHi
  | cfgPort | cfgRate | cfgN | seqIdx | out | reserved38 | reserved3C
  deriving DecidableEq, Repr

/-- One operation of a host program: an access, or the loop WAIT, its only control flow (R65, R66). -/
inductive HostOp where
  | access (d : Descriptor)
  | wait
  deriving DecidableEq, Repr

end Sys2Proof
end

