-- ==== Sys2Proof/WellFormed.lean ====
section
/-! DEFINITION. The two formats' checks on raw words (30_encoding.md R59, R61, R63). Every term of Instr is a
well-formed instruction by its types: each field holds exactly the values its bits can. -/

namespace Sys2Proof

/-- RSV, bits [46:42], must be 0 (R59). -/
def descriptorReservedZero (d : Descriptor) : Bool :=
  d.extractLsb' 42 5 == 0#5

/-- DATA must be 0 when W = 0 (R59). -/
def descriptorReadDataZero (d : Descriptor) : Bool :=
  d.getLsbD 47 || d.extractLsb' 0 32 == 0#32

/-- A descriptor is well-formed when both checks of R59 pass. -/
def descriptorWellFormed (d : Descriptor) : Bool :=
  descriptorReservedZero d && descriptorReadDataZero d

/-- Bits [31:4] of a CMD word must be 0 (R58). -/
def cmdReservedZero (w : Word) : Bool :=
  w.extractLsb' 4 28 == 0#28

/-- OP selects one of the four commands (R61). -/
def cmdOpcodeDefined (w : Word) : Bool :=
  let op := (w.extractLsb' 0 4).toNat
  decide (1 ≤ op ∧ op ≤ 4)

/-- A CMD word is legal when both checks of R63 pass. -/
def cmdLegal (w : Word) : Bool :=
  cmdReservedZero w && cmdOpcodeDefined w

/-- The checks of a raw word in either format. -/
def RawInstr.wellFormed : RawInstr → Bool
  | .cmd w => cmdLegal w
  | .hostbus d => descriptorWellFormed d

/-- Every access of a host program is a well-formed descriptor; a WAIT always is (R59, R66). -/
def HostOp.wellFormed : HostOp → Bool
  | .access d => descriptorWellFormed d
  | .wait => true

end Sys2Proof
end

