-- ==== Sys2Proof/Decode.lean ====
section
/-! DEFINITION. The two decoders and the encoder, from the formats of 30_encoding.md R58 R59 and the opcode map
R61 R62. The decoders are total; each refusal has a name. -/

namespace Sys2Proof

/-- SZ: log2 of the width in bytes (R59). -/
def Width.code : Width → BitVec 2
  | .b1 => 0#2
  | .b2 => 1#2
  | .b4 => 2#2
  | .b8 => 3#2

/-- The width an SZ field names (R59). -/
def Width.ofCode (c : BitVec 2) : Width :=
  match c.toNat with
  | 0 => .b1
  | 1 => .b2
  | 2 => .b4
  | _ => .b8

/-- The number of bytes of an access, 2^SZ (R59). -/
def Width.bytes : Width → Nat
  | .b1 => 1
  | .b2 => 2
  | .b4 => 4
  | .b8 => 8

/-- The opcode map of the OP field (R61). -/
def decodeOpcode (op : BitVec 4) : Except CmdError Instr :=
  match op.toNat with
  | 1 => .ok .cmdOpen
  | 2 => .ok .cmdStart
  | 3 => .ok .cmdUpdate
  | 4 => .ok .cmdClose
  | _ => .error .reservedOpcode

/-- A CMD word (R58, R61, R63): the reserved bits first, then OP. -/
def decodeCmd (w : Word) : Except CmdError Instr :=
  if cmdReservedZero w then decodeOpcode (w.extractLsb' 0 4) else .error .reservedBits

/-- A HOSTBUS descriptor (R59, R62): W is bit 47, SZ bits [41:40], OFF bits [39:32], DATA bits [31:0]. -/
def decodeHostbus (d : Descriptor) : Except HostbusError Instr :=
  if descriptorReservedZero d then
    if d.getLsbD 47 then
      .ok (.wr (Width.ofCode (d.extractLsb' 40 2)) (d.extractLsb' 32 8) (d.extractLsb' 0 32))
    else if d.extractLsb' 0 32 == 0#32 then
      .ok (.rd (Width.ofCode (d.extractLsb' 40 2)) (d.extractLsb' 32 8))
    else .error .readData
  else .error .reservedBits

/-- Either format; `none` is a refusal of the format's decoder. -/
def decode : RawInstr → Option Instr
  | .cmd w => (decodeCmd w).toOption
  | .hostbus d => (decodeHostbus d).toOption

/-- A descriptor from its fields, most significant first: W, RSV = 0, SZ, OFF, DATA (R59). -/
def descriptorOf (w : BitVec 1) (sz : Width) (off : Byte) (data : Word) : Descriptor :=
  w ++ 0#5 ++ sz.code ++ off ++ data

/-- The raw word of an instruction (R61, R62). -/
def encode : Instr → RawInstr
  | .cmdOpen => .cmd 1#32
  | .cmdStart => .cmd 2#32
  | .cmdUpdate => .cmd 3#32
  | .cmdClose => .cmd 4#32
  | .rd sz off => .hostbus (descriptorOf 0#1 sz off 0#32)
  | .wr sz off data => .hostbus (descriptorOf 1#1 sz off data)

/-- The raw word behind a table row's bits: a CMD word where the row has at most 32 bits, a descriptor otherwise.
The table numbers a row's bits as the spec numbers the word's, so nothing is rearranged (log 20). -/
def rawOfTable (nbits w : Nat) : RawInstr :=
  if nbits ≤ 32 then .cmd (BitVec.ofNat 32 w) else .hostbus (BitVec.ofNat 48 w)

/-- What the decoder reads from a row's bits. -/
def decodeTableWord (nbits w : Nat) : Option Instr :=
  decode (rawOfTable nbits w)

end Sys2Proof
end

