-- ==== Sys2Proof/Config.lean ====
section
/-! DEFINITION. What stands outside PWM8: the agents that may move, the answers a host access gets, the platform's
parameters, and the FREE VALUES. A free value is an opaque constant: it has no body, so nothing in Lean can evaluate it
or prove a value of it. -/

namespace Sys2Proof

/-- Whose step is taken (00_scope.md R3), or an assertion and release of the platform reset (70 R126). The Device is
no agent: it is consulted by the Controller's steps (R112). -/
inductive Agent where
  | host | controller | sequencer | reset
  deriving DecidableEq, Repr, Inhabited

/-- What the last host access answered: nothing yet, the data of a read (43 R106), a write done (R107), or BUS_ERROR,
which carries no data (20 R46). -/
inductive BusResponse where
  | idle
  | data (v : Word)
  | written
  | busError
  deriving DecidableEq, Repr, Inhabited

/-- The parameters the spec leaves OPEN (00 R8, 20 R42): F_MAX_SAMPLE_HZ, VALID_PORTS, WINDOW_BASE. -/
structure Platform where
  fMaxSampleHz : Nat
  validPorts : List Word
  windowBase : Nat
  deriving DecidableEq, Repr, Inhabited

/-- The parameters at reset: any (00 R8; log 6). -/
opaque Config.platform : Platform

/-- The n-th choice of who moves, once State.sched has given no name for it (20 R52, 70 R130; log 1). -/
opaque Config.agent : Nat → Agent

/-- The n-th answer of the Device: `none`, or an error code (60 R112; log 3). -/
opaque Config.deviceAnswer : Nat → Option Word

/-- The n-th draw of an OUT read while OUT_UNKNOWN = 1 (10 R30; log 4). -/
opaque Config.lineDraw : Nat → Byte

/-- The n-th answer of the platform to an access beyond the window (20 R42; log 7). -/
opaque Config.platformAnswer : Nat → BusResponse

/-- The byte at an address of the bank space that no step has written since the n-th reset (10 R14, 93 U1; log 5). -/
opaque Config.bankByte : Nat → Nat → Byte

end Sys2Proof
end

