-- ==== Sys2Proof/Machine/State.lean ====
section
/-! DEFINITION. The state of PWM8 (10_state.md R14) and of what stands outside it, as plain data; the reasons a step
can stop; the state after reset (70_reset_and_hazards.md R126). -/

namespace Sys2Proof.Machine

/-- S.DEV_STATE (R15). `opened` is the spec's Open. The encodings 5 to 7 never occur, so no constructor stands for
them (log 19). -/
inductive DevState where
  | unopened | opened | streaming | closed | faulted
  deriving DecidableEq, Repr

/-- S.PHASE (R17). -/
inductive Phase where
  | idle | exec | waitSwap | waitStop
  deriving DecidableEq, Repr

/-- The result codes (R16). The codes 6 to 15 are never produced, so no constructor stands for them (log 19). -/
inductive ResultCode where
  | ok | configurationError | hardwareError | notStreaming | illegalState | illegalCommand
  deriving DecidableEq, Repr

/-- Eight duty cycles, one per channel (R26, R27). -/
structure Duty where
  ch0 : Byte
  ch1 : Byte
  ch2 : Byte
  ch3 : Byte
  ch4 : Byte
  ch5 : Byte
  ch6 : Byte
  ch7 : Byte
  deriving DecidableEq, Repr

/-- The all-zero duty-cycle vector: its reset value (R14), and what CLOSE encodes (41 R94). -/
def Duty.zero : Duty := ⟨0#8, 0#8, 0#8, 0#8, 0#8, 0#8, 0#8, 0#8⟩

/-- A source of values from outside the block: the values already given, in order, and how many have been taken. Once
`given` is used up, the next value is free (a constant of Config applied to `count`). -/
structure Supply (α : Type) where
  given : List α
  count : Nat
  deriving DecidableEq, Repr

/-- A source that has given nothing: every value taken from it is free. -/
def Supply.free {α : Type} : Supply α := ⟨[], 0⟩

/-- The state: the elements of R14 under their own names, then the model's own fields for what stands outside PWM8. -/
structure State where
  /-- S.DEV_STATE, STATUS[2:0] -/
  devState : DevState
  /-- S.PHASE; STATUS[3] is (S.PHASE != IDLE) -/
  phase : Phase
  /-- S.SWAP_PENDING, STATUS[4] (R33) -/
  swapPending : Bool
  /-- S.ACTIVE_SEL, STATUS[5]: the active bank is bank 1 when true (R32) -/
  activeSel : Bool
  /-- S.GATE, STATUS[6] (R35) -/
  gate : Bool
  /-- S.OVERRUN, STATUS[7], sticky (R38) -/
  overrun : Bool
  /-- S.RESULT, STATUS[11:8] (R16) -/
  result : ResultCode
  /-- S.LAST_OP, STATUS[15:12] -/
  lastOp : BitVec 4
  /-- S.STOP_REQ, STATUS[16] (R34) -/
  stopReq : Bool
  /-- S.OUT_UNKNOWN, STATUS[17] (R37) -/
  outUnknown : Bool
  /-- S.ERR_CODE (R21) -/
  errCode : Word
  /-- S.FAULT_KIND, FAULT[3:0] (R22) -/
  faultKind : ResultCode
  /-- S.ARG_PORT, PORT_ID (R23) -/
  argPort : Word
  /-- S.ARG_RATE, SAMPLE_RATE (R24) -/
  argRate : Word
  /-- S.ARG_COUNT, SAMPLE_COUNT (R25) -/
  argCount : Word
  /-- S.ARG_DC[0..7], DC_LO and DC_HI (R26, R27) -/
  argDc : Duty
  /-- S.L_CMD (R36) -/
  lCmd : Word
  /-- S.L_PORT (R36) -/
  lPort : Word
  /-- S.L_RATE (R36) -/
  lRate : Word
  /-- S.L_COUNT (R36) -/
  lCount : Word
  /-- S.L_DC[0..7] (R36) -/
  lDc : Duty
  /-- S.CFG_PORT (R28) -/
  cfgPort : Word
  /-- S.CFG_RATE (R28) -/
  cfgRate : Word
  /-- S.CFG_N (R28) -/
  cfgN : BitVec 9
  /-- S.SEQ_IDX (R29) -/
  seqIdx : BitVec 8
  /-- S.OUT, the output port lines (R30) -/
  out : Byte
  /-- BANK[0] and BANK[1] (R32): byte i of bank b is the cell at address 256*b + i; a byte that no step has written
  since reset has no cell (log 5). -/
  banks : List Host.Cell
  /-- The model's own: how many platform resets there have been (log 5). -/
  bankEpoch : Nat
  /-- The model's own: the parameters of 00 R8, which no step writes (log 6). -/
  platform : Platform
  /-- The model's own: what the Host's last access answered (log 9). -/
  bus : BusResponse
  /-- The model's own: what the Host has still to do, next first (log 10). -/
  program : List HostOp
  /-- The model's own: who moves next (log 1). -/
  sched : Supply Agent
  /-- The model's own: the Device's answers (log 3). -/
  device : Supply (Option Word)
  /-- The model's own: the values OUT reads as while the lines are unknown (log 4). -/
  lines : Supply Byte
  /-- The model's own: the platform's answers to accesses beyond the window (log 7). -/
  outside : Supply BusResponse
  deriving DecidableEq, Repr

/-- PWM8 raises no traps: every error is a result code, the OVERRUN bit or the BUS_ERROR response (60 R110). So no step
of the model faults, and there is no reason to name (log 21). -/
inductive Fault where
  deriving DecidableEq, Repr

/-- Why a step is refused. -/
inductive Refusal where
  /-- Raised by exec for an instruction the model gives no meaning. No arm raises it. Safe. -/
  | notModelled (mnemonic : String)
  /-- Raised by the Host's step for a descriptor the decoder refuses: it is not well-formed and reaches no hardware
  (30 R59; log 8). Safe: the run stops where a real host could not go on with that word. -/
  | malformedDescriptor (why : HostbusError)
  deriving DecidableEq, Repr

/-- The state after reset: the reset column of R14 (R126). The banks are unspecified: no byte is written. The model's
own fields: nothing given, nothing to do, the platform any (logs 1, 3 to 7, 9, 10). -/
def State.reset : State where
  devState := .unopened
  phase := .idle
  swapPending := false
  activeSel := false
  gate := false
  overrun := false
  result := .ok
  lastOp := 0#4
  stopReq := false
  outUnknown := false
  errCode := 0#32
  faultKind := .ok
  argPort := 0#32
  argRate := 0#32
  argCount := 0#32
  argDc := Duty.zero
  lCmd := 0#32
  lPort := 0#32
  lRate := 0#32
  lCount := 0#32
  lDc := Duty.zero
  cfgPort := 0#32
  cfgRate := 0#32
  cfgN := 0#9
  seqIdx := 0#8
  out := 0#8
  banks := []
  bankEpoch := 0
  platform := Config.platform
  bus := .idle
  program := []
  sched := Supply.free
  device := Supply.free
  lines := Supply.free
  outside := Supply.free

end Sys2Proof.Machine
end

