-- ==== Sys2Proof/Machine/Operands.lean ====
section
/-! DEFINITION. Operand forms: the offset of a host access and the register it names (10_state.md R18, 43 R105), the
packing of duty cycles into words (20 R43, 30 R60), and the bank space's addresses (20 R41(b)). -/

namespace Sys2Proof.Machine

/-- The duty cycle of channel j, `dc[j]`. -/
def Duty.channel (d : Duty) (j : Fin 8) : Byte :=
  match j with
  | 0 => d.ch0
  | 1 => d.ch1
  | 2 => d.ch2
  | 3 => d.ch3
  | 4 => d.ch4
  | 5 => d.ch5
  | 6 => d.ch6
  | 7 => d.ch7

/-- DC_LO as read: channel k in bits [8k+7:8k], k = 0..3 (R26). -/
def Duty.lo (d : Duty) : Word :=
  d.ch3 ++ d.ch2 ++ d.ch1 ++ d.ch0

/-- DC_HI as read: channel k in bits [8(k-4)+7:8(k-4)], k = 4..7 (R27). -/
def Duty.hi (d : Duty) : Word :=
  d.ch7 ++ d.ch6 ++ d.ch5 ++ d.ch4

/-- Byte k of a word, bits [8k+7:8k]. -/
def wordByte (v : Word) (k : Nat) : Byte :=
  v.extractLsb' (8 * k) 8

/-- A write of DC_LO (R107). -/
def Duty.withLo (d : Duty) (v : Word) : Duty :=
  { d with ch0 := wordByte v 0, ch1 := wordByte v 1, ch2 := wordByte v 2, ch3 := wordByte v 3 }

/-- A write of DC_HI (R107). -/
def Duty.withHi (d : Duty) (v : Word) : Duty :=
  { d with ch4 := wordByte v 0, ch5 := wordByte v 1, ch6 := wordByte v 2, ch7 := wordByte v 3 }

/-- The OP field of a command word, bits [3:0] (R58). -/
def opField (w : Word) : BitVec 4 :=
  w.extractLsb' 0 4

/-- Whether an offset lies in the 64-byte window (20 R41(a), R42). -/
def inWindow (off : Byte) : Bool :=
  decide (off.toNat < 0x40)

/-- Whether a host access is 4 bytes wide at a multiple of 4 (20 R46). -/
def accessAligned (width : Width) (off : Byte) : Bool :=
  decide (width.bytes = 4) && decide (off.toNat % 4 = 0)

/-- The register at a word-aligned offset of the window (R18). -/
def regAt (off : Byte) : Option Reg :=
  match off.toNat with
  | 0x00 => some .cmd
  | 0x04 => some .status
  | 0x08 => some .errCode
  | 0x0C => some .fault
  | 0x10 => some .portId
  | 0x14 => some .sampleRate
  | 0x18 => some .sampleCount
  | 0x1C => some .dcLo
  | 0x20 => some .dcHi
  | 0x24 => some .cfgPort
  | 0x28 => some .cfgRate
  | 0x2C => some .cfgN
  | 0x30 => some .seqIdx
  | 0x34 => some .out
  | 0x38 => some .reserved38
  | 0x3C => some .reserved3C
  | _ => none

/-- The offset of a register in the window (R18). -/
def regOffset : Reg → Byte
  | .cmd => 0x00#8
  | .status => 0x04#8
  | .errCode => 0x08#8
  | .fault => 0x0C#8
  | .portId => 0x10#8
  | .sampleRate => 0x14#8
  | .sampleCount => 0x18#8
  | .dcLo => 0x1C#8
  | .dcHi => 0x20#8
  | .cfgPort => 0x24#8
  | .cfgRate => 0x28#8
  | .cfgN => 0x2C#8
  | .seqIdx => 0x30#8
  | .out => 0x34#8
  | .reserved38 => 0x38#8
  | .reserved3C => 0x3C#8

/-- The address of a host access on the host's bus: WINDOW_BASE + OFF (43 R105). -/
def effectiveAddress (p : Platform) (off : Nat) : Nat :=
  p.windowBase + off

/-- The offset at which a bus address reaches PWM8, if it does (20 R42). Descriptors carry the offset itself, so no
access of the model depends on the base. -/
def windowOffset (p : Platform) (addr : Nat) : Option Nat :=
  if p.windowBase ≤ addr ∧ addr < p.windowBase + 0x40 then some (addr - p.windowBase) else none

/-- The address of byte i of bank b in the bank space (20 R41(b)); bank 1 when b is true. -/
def bankAddr (b : Bool) (i : Nat) : Nat :=
  256 * b.toNat + i

end Sys2Proof.Machine
end

