-- ==== Sys2Proof/Machine/Encoder.lean ====
section
/-! DEFINITION. The encoder of 40_encoder.md: a pure function of eight duty cycles and the sample count. -/

namespace Sys2Proof.Machine

/-- Lane j of sample i: bit j, set iff i < dc[j], an unsigned comparison that never wraps (R68, R76). -/
def laneBit (d : Duty) (i : Nat) (j : Fin 8) : Byte :=
  if i < (d.channel j).toNat then 1#8 <<< j.val else 0#8

/-- Sample i: the eight lanes together, channel j at bit j (R68, R71). -/
def sample (d : Duty) (i : Nat) : Byte :=
  laneBit d i 0 ||| laneBit d i 1 ||| laneBit d i 2 ||| laneBit d i 3 |||
  laneBit d i 4 ||| laneBit d i 5 ||| laneBit d i 6 ||| laneBit d i 7

/-- `encode(dc, N)`: samples 0 to N-1, in order (R68). The name `encode` is the instructions' encoder. -/
def encodeWave (d : Duty) (n : Nat) : List Byte :=
  (List.range n).map (sample d)

end Sys2Proof.Machine
end

