-- ==== Sys2Proof/Machine/Flags.lean ====
section
/-! DEFINITION. The flags of PWM8 are the fields of STATUS (10_state.md R20, R38): their codes, BUSY, and the word the
host reads. -/

namespace Sys2Proof.Machine

/-- The encoding of DEV_STATE (R15). -/
def DevState.code : DevState → BitVec 3
  | .unopened => 0#3
  | .opened => 1#3
  | .streaming => 2#3
  | .closed => 3#3
  | .faulted => 4#3

/-- The encoding of a result code (R16). -/
def ResultCode.code : ResultCode → BitVec 4
  | .ok => 0#4
  | .configurationError => 1#4
  | .hardwareError => 2#4
  | .notStreaming => 3#4
  | .illegalState => 4#4
  | .illegalCommand => 5#4

/-- BUSY = (S.PHASE != IDLE), the only host view of the phase (R17). -/
def State.busy (s : State) : Bool :=
  decide (s.phase ≠ .idle)

/-- STATUS, most significant field first (R20, 43 R106). -/
def statusWord (s : State) : Word :=
  0#14 ++ BitVec.ofBool s.outUnknown ++ BitVec.ofBool s.stopReq ++ s.lastOp ++ s.result.code ++
    BitVec.ofBool s.overrun ++ BitVec.ofBool s.gate ++ BitVec.ofBool s.activeSel ++
    BitVec.ofBool s.swapPending ++ BitVec.ofBool s.busy ++ s.devState.code

/-- The BUSY bit of a STATUS value, bit 3 (R20). -/
def statusBusy (v : Word) : Bool :=
  v.getLsbD 3

end Sys2Proof.Machine
end

