-- ==== Sys2Proof/Machine/Ops.lean ====
section
/-! DEFINITION. The named operations: values from outside, the banks, completing a command, entering Faulted (the
machine's one exception entry, 60 R113), accepting a command, the platform reset. -/

namespace Sys2Proof.Machine

/-! ### Values from outside -/

/-- The next value of a source: the first one given, else the free value. -/
def Supply.peek {α : Type} (free : Nat → α) (p : Supply α) : α :=
  match p.given with
  | a :: _ => a
  | [] => free p.count

/-- A source after one value was taken from it. -/
def Supply.advance {α : Type} (p : Supply α) : Supply α :=
  ⟨p.given.tail, p.count + 1⟩

/-- Who moves next (20 R52). -/
def nextAgent (s : State) : Agent :=
  s.sched.peek Config.agent

/-- The answer of `dev()` at the next consultation (60 R112). -/
def deviceAnswer (s : State) : Option Word :=
  s.device.peek Config.deviceAnswer

/-- The state after one consultation of the Device. -/
def consulted (s : State) : State :=
  { s with device := s.device.advance }

/-- The draw of the next OUT read while the lines are unknown (10 R30). -/
def lineDraw (s : State) : Byte :=
  s.lines.peek Config.lineDraw

/-- The platform's answer to the next access beyond the window (20 R42). -/
def platformAnswer (s : State) : BusResponse :=
  s.outside.peek Config.platformAnswer

/-- The access in hand gets its response. -/
def respond (r : BusResponse) (s : State) : State :=
  { s with bus := r }

/-! ### The banks (10 R32, 20 R41(b)) -/

/-- The byte written at an address of the bank space; `none` if no step has written it since reset. -/
def readCell (m : List Host.Cell) (a : Nat) : Option Byte :=
  m.lookup a

/-- Bytes as cells at rising addresses from `base`. -/
def cellsFrom : Nat → List Byte → List Host.Cell
  | _, [] => []
  | base, b :: bs => (base, b) :: cellsFrom (base + 1) bs

/-- The cells after bytes are written at `base`, `base + 1`, ...: the cells below, the new run, the cells above. -/
def writeRun (base : Nat) (bytes : List Byte) (m : List Host.Cell) : List Host.Cell :=
  m.filter (fun c => decide (c.1 < base)) ++ cellsFrom base bytes ++
    m.filter (fun c => decide (base + bytes.length ≤ c.1))

/-- The canonical form of the banks: addresses strictly rising, none outside the bank space. An unlisted byte reads as
no fixed value, so no entry can equal it (log 5). -/
def Memory.wf (m : List Host.Cell) : Bool :=
  decide (m.Pairwise (fun c d => c.1 < d.1)) && m.all (fun c => decide (c.1 < 512))

/-- BANK[b][i]: the byte last written, or, where nothing was written since reset, the free value (93 U1). -/
def bankByte (s : State) (b : Bool) (i : Nat) : Byte :=
  (readCell s.banks (bankAddr b i)).getD (Config.bankByte s.bankEpoch (bankAddr b i))

/-- BANK[b][i] <- encode(dc, CFG_N)[i] for i in 0..CFG_N-1, in one step; the bytes from CFG_N on keep their value
(40 R81). -/
def writeWave (b : Bool) (d : Duty) (s : State) : State :=
  { s with banks := writeRun (bankAddr b 0) (encodeWave d s.cfgN.toNat) s.banks }

/-! ### Commands -/

/-- `complete(r)` (41 R85). -/
def complete (r : ResultCode) (s : State) : State :=
  { s with result := r, lastOp := opField s.lCmd, phase := .idle }

/-- `enter_faulted(kind, code)` (60 R113): the code is recorded, and the lines become unknown, only for a
HARDWARE_ERROR. -/
def enterFaulted (kind : ResultCode) (code : Option Word) (s : State) : State :=
  { s with
    devState := .faulted
    faultKind := kind
    errCode := if kind = .hardwareError then code.getD s.errCode else s.errCode
    outUnknown := if kind = .hardwareError then true else s.outUnknown
    gate := false
    swapPending := false
    stopReq := false }

/-- A Device error in OPEN, START or UPDATE: enter Faulted, then complete (41 R89, R91, R92). -/
def failHardware (c : Word) (s : State) : State :=
  complete .hardwareError (enterFaulted .hardwareError (some c) s)

/-- The configuration in force becomes OPEN's arguments, and the device Open (41 R89). -/
def configure (s : State) : State :=
  { s with
    cfgPort := s.lPort
    cfgRate := s.lRate
    cfgN := s.lCount.setWidth 9
    devState := .opened }

/-- The stream starts: bank 0 active, at its sample 0, the gate open (41 R91). -/
def beginStream (s : State) : State :=
  { s with
    activeSel := false
    swapPending := false
    stopReq := false
    seqIdx := 0#8
    gate := true
    devState := .streaming }

/-- UPDATE asks for the swap and waits for it (41 R92). -/
def awaitSwap (s : State) : State :=
  { s with swapPending := true, phase := .waitSwap }

/-- CLOSE asks for the swap and the stop and waits for the stop (41 R94). -/
def awaitStop (s : State) : State :=
  { s with swapPending := true, stopReq := true, phase := .waitStop }

/-- The device is Closed (41 R94, R95). -/
def closeDevice (s : State) : State :=
  { s with devState := .closed }

/-- A Device error of CLOSE: its code is kept, the lines are unknown (41 R94, R95). -/
def recordError (c : Word) (s : State) : State :=
  { s with errCode := c, outUnknown := true }

/-- A CLOSE that releases the port: Closed whatever the Device answers, the error reported (41 R94, R95; R112 has the
Device consulted here). -/
def releasePort (s : State) : State :=
  match deviceAnswer s with
  | none => complete .ok (consulted (closeDevice s))
  | some c => complete .hardwareError (recordError c (consulted (closeDevice s)))

/-- A CMD write while IDLE (41 R82): the word and the arguments are latched, PHASE becomes EXEC. -/
def accept (v : Word) (s : State) : State :=
  { s with
    lCmd := v
    lPort := s.argPort
    lRate := s.argRate
    lCount := s.argCount
    lDc := s.argDc
    phase := .exec }

/-- A CMD write (43 R107): accepted while IDLE, else dropped with OVERRUN set (41 R82, R83). -/
def writeCmd (v : Word) (s : State) : State :=
  if s.phase = .idle then accept v s else { s with overrun := true }

/-! ### Reset -/

/-- The platform reset, asserted and released (70 R126): every element of R14 takes its reset value, the banks are
unspecified anew, a command in flight is abandoned. What stands outside PWM8 is as it was (log 12). -/
def platformReset (s : State) : State :=
  { State.reset with
    bankEpoch := s.bankEpoch + 1
    platform := s.platform
    bus := s.bus
    program := s.program
    sched := s.sched
    device := s.device
    lines := s.lines
    outside := s.outside }

end Sys2Proof.Machine
end

