-- ==== Sys2Proof/Machine/Commands.lean ====
section
/-! DEFINITION. The execute steps of the four commands (41_commands.md R86 to R95), each over the latches and the
shared operations of Ops. Each is the Controller's step for its opcode; that PHASE = EXEC is checked by the step that
calls it (log 13). -/

namespace Sys2Proof.Machine

/-- An illegal command word: `exec_illegal` (R87). -/
def execIllegal (s : State) : State :=
  complete .illegalCommand s

/-- OPEN, START and UPDATE in Faulted re-report the fault (R88); in every other state the command runs. -/
def unlessFaulted (run : State → State) (s : State) : State :=
  if s.devState = .faulted then complete s.faultKind s else run s

/-- The configuration check of OPEN: exactly three conditions (R90). -/
def configLegal (s : State) : Bool :=
  decide (1 ≤ s.lCount.toNat) && decide (s.lCount.toNat ≤ 256) &&
    (decide (1 ≤ s.lRate.toNat) && decide (s.lRate.toNat < s.platform.fMaxSampleHz)) &&
    s.platform.validPorts.contains s.lPort

/-- `open_exec` (R89): the state check, the configuration check, then the Device. -/
def openExec (s : State) : State :=
  if s.devState = .unopened ∨ s.devState = .closed then
    if configLegal s then
      match deviceAnswer s with
      | some c => failHardware c (consulted s)
      | none => complete .ok (configure (consulted s))
    else complete .configurationError (enterFaulted .configurationError none s)
  else complete .illegalState s

/-- `start_exec` (R91): START always writes bank 0 and begins at sample 0 of it. -/
def startExec (s : State) : State :=
  if s.devState = .opened then
    match deviceAnswer s with
    | some c => failHardware c (consulted s)
    | none => complete .ok (beginStream (writeWave false s.lDc (consulted s)))
  else complete .illegalState s

/-- `update_exec` (R92): the shadow bank is written and the swap requested; the command stays in flight. -/
def updateExec (s : State) : State :=
  if s.devState = .streaming then
    match deviceAnswer s with
    | some c => failHardware c (consulted s)
    | none => awaitSwap (writeWave (!s.activeSel) s.lDc (consulted s))
  else complete .notStreaming s

/-- `close_exec` (R94). -/
def closeExec (s : State) : State :=
  match s.devState with
  | .closed => complete .ok s
  | .unopened => complete .ok s
  | .streaming => awaitStop (writeWave (!s.activeSel) Duty.zero s)
  | .opened => releasePort s
  | .faulted => releasePort s

/-- OPEN (R86, R88, R89). -/
def execCmdOpen (s : State) : Host.Outcome State Fault Refusal :=
  .next (unlessFaulted openExec s)

/-- START (R86, R88, R91). -/
def execCmdStart (s : State) : Host.Outcome State Fault Refusal :=
  .next (unlessFaulted startExec s)

/-- UPDATE (R86, R88, R92). -/
def execCmdUpdate (s : State) : Host.Outcome State Fault Refusal :=
  .next (unlessFaulted updateExec s)

/-- CLOSE (R86, R94). -/
def execCmdClose (s : State) : Host.Outcome State Fault Refusal :=
  .next (closeExec s)

end Sys2Proof.Machine
end

