-- ==== Sys2Proof/Machine/HostAccess.lean ====
section
/-! DEFINITION. The host accesses RD and WR (43_host_access.md R106, R107) over the register map of 10_state.md R18. -/

namespace Sys2Proof.Machine

/-- What a read of a register returns (R106). -/
def readReg (r : Reg) (s : State) : Word :=
  match r with
  | .cmd => 0#32
  | .status => statusWord s
  | .errCode => s.errCode
  | .fault => s.faultKind.code.setWidth 32
  | .portId => s.argPort
  | .sampleRate => s.argRate
  | .sampleCount => s.argCount
  | .dcLo => s.argDc.lo
  | .dcHi => s.argDc.hi
  | .cfgPort => s.cfgPort
  | .cfgRate => s.cfgRate
  | .cfgN => s.cfgN.setWidth 32
  | .seqIdx => s.seqIdx.setWidth 32
  | .out => if s.outUnknown then (lineDraw s).setWidth 32 else s.out.setWidth 32
  | .reserved38 => 0#32
  | .reserved3C => 0#32

/-- A read of OUT while the lines are unknown takes a draw, so that the next one is fresh (10 R30); no other read
takes anything, and no read changes an element of PWM8 (20 R48). -/
def takeDraw (r : Reg) (s : State) : State :=
  if r = .out ∧ s.outUnknown then { s with lines := s.lines.advance } else s

/-- What a write of a register does (R107); a read-only or reserved register ignores it (10 R31). -/
def writeReg (r : Reg) (v : Word) (s : State) : State :=
  match r with
  | .cmd => writeCmd v s
  | .portId => { s with argPort := v }
  | .sampleRate => { s with argRate := v }
  | .sampleCount => { s with argCount := v }
  | .dcLo => { s with argDc := s.argDc.withLo v }
  | .dcHi => { s with argDc := s.argDc.withHi v }
  | .status => s
  | .errCode => s
  | .fault => s
  | .cfgPort => s
  | .cfgRate => s
  | .cfgN => s
  | .seqIdx => s
  | .out => s
  | .reserved38 => s
  | .reserved3C => s

/-- An access beyond the window does not reach PWM8; the platform answers it (20 R42; log 7). -/
def accessOutside (s : State) : State :=
  respond (platformAnswer s) { s with outside := s.outside.advance }

/-- The check every access passes first: beyond the window it is the platform's (20 R42); in the window it is 4 bytes
at a multiple of 4, or it gets BUS_ERROR and changes nothing (20 R46); then it reaches the register at its offset. -/
def access (width : Width) (off : Byte) (perform : Reg → State → State) (s : State) : State :=
  if inWindow off then
    if accessAligned width off then
      match regAt off with
      | some r => perform r s
      | none => respond .busError s
    else respond .busError s
  else accessOutside s

/-- A read that reaches a register. -/
def performRead (r : Reg) (s : State) : State :=
  respond (.data (readReg r s)) (takeDraw r s)

/-- A write that reaches a register. -/
def performWrite (v : Word) (r : Reg) (s : State) : State :=
  respond .written (writeReg r v s)

/-- RD (R106). -/
def execRd (width : Width) (off : Byte) (s : State) : Host.Outcome State Fault Refusal :=
  .next (access width off performRead s)

/-- WR (R107). -/
def execWr (width : Width) (off : Byte) (data : Word) (s : State) : Host.Outcome State Fault Refusal :=
  .next (access width off (performWrite data) s)

end Sys2Proof.Machine
end

