-- ==== Sys2Proof/Machine/Dispatch.lean ====
section
/-! DEFINITION. One arm per constructor of Instr: each is one direct call of its meaning. -/

namespace Sys2Proof.Machine

def exec (i : Instr) (s : State) : Host.Outcome State Fault Refusal :=
  match i with
  | .cmdOpen => Sys2Proof.Machine.execCmdOpen s
  | .cmdStart => Sys2Proof.Machine.execCmdStart s
  | .cmdUpdate => Sys2Proof.Machine.execCmdUpdate s
  | .cmdClose => Sys2Proof.Machine.execCmdClose s
  | .rd width off => Sys2Proof.Machine.execRd width off s
  | .wr width off data => Sys2Proof.Machine.execWr width off data s

end Sys2Proof.Machine
end

