-- ==== Sys2Proof/Machine/Controller.lean ====
section
/-! DEFINITION. The Controller's three kinds of step (41_commands.md R84), and its choice among them. -/

namespace Sys2Proof.Machine

/-- The execute step (R86): the latched word is decoded; an illegal word completes with ILLEGAL_COMMAND before any
other check. -/
def executeStep (s : State) : Host.Outcome State Fault Refusal :=
  match decodeCmd s.lCmd with
  | .ok i => exec i s
  | .error _ => .next (execIllegal s)

/-- The UPDATE completion step (R93). -/
def updateCompletion (s : State) : State :=
  complete .ok s

/-- The CLOSE completion step (R95). -/
def closeCompletion (s : State) : State :=
  releasePort s

/-- Whether the Controller has an enabled step (R84). -/
def controllerEnabled (s : State) : Bool :=
  match s.phase with
  | .idle => false
  | .exec => true
  | .waitSwap => !s.swapPending
  | .waitStop => !s.gate

/-- The Controller's step: the enabled one, or none (R84; log 2). -/
def controllerStep (s : State) : Host.Outcome State Fault Refusal :=
  match s.phase with
  | .idle => .next s
  | .exec => executeStep s
  | .waitSwap => if s.swapPending then .next s else .next (updateCompletion s)
  | .waitStop => if s.gate then .next s else .next (closeCompletion s)

end Sys2Proof.Machine
end

