-- ==== Sys2Proof/Machine/HostAgent.lean ====
section
/-! DEFINITION. The Host agent: it performs its program one operation at a time (20 R51, 30 R65), WAIT being a loop on
RD STATUS (30 R66, 43 R109); and the expansions of the pseudo-instructions (30 R66). -/

namespace Sys2Proof.Machine

/-- Fetch one operation: the Host's program without it. -/
def afterFetch (rest : List HostOp) (s : State) : State :=
  { s with program := rest }

/-- A descriptor of the program: decoded and run, or refused by the decoder's name for what is wrong (30 R59). -/
def hostAccess (d : Descriptor) (s : State) : Host.Outcome State Fault Refusal :=
  match decodeHostbus d with
  | .ok i => exec i s
  | .error e => .refused (.malformedDescriptor e)

/-- Whether the response in hand is a STATUS value with BUSY set. -/
def responseBusy (r : BusResponse) : Bool :=
  match r with
  | .data v => statusBusy v
  | .idle => false
  | .written => false
  | .busError => false

/-- One turn of WAIT: read STATUS, and stay in the loop while BUSY reads 1 (30 R66). -/
def hostWait (rest : List HostOp) (s : State) : State :=
  let t := access .b4 (regOffset .status) performRead (afterFetch rest s)
  if responseBusy t.bus then afterFetch (.wait :: rest) t else t

/-- The Host's step; none is left when its program is done (70 R130(c), R131; log 2). -/
def hostStep (s : State) : Host.Outcome State Fault Refusal :=
  match s.program with
  | [] => .next s
  | .access d :: rest => hostAccess d (afterFetch rest s)
  | .wait :: rest => .next (hostWait rest s)

/-! ### The assembler's pseudo-instructions (30 R65, R66) -/

/-- `pack(a,b,c,d)` = a | b<<8 | c<<16 | d<<24. -/
def pack (a b c d : Byte) : Word :=
  d ++ c ++ b ++ a

/-- `RD <reg>`. -/
def asmRd (r : Reg) : HostOp :=
  .access (descriptorOf 0#1 .b4 (regOffset r) 0#32)

/-- `WR <reg>, <imm>`. -/
def asmWr (r : Reg) (v : Word) : HostOp :=
  .access (descriptorOf 1#1 .b4 (regOffset r) v)

/-- `CMD <op>`. -/
def asmCmd (op : Word) : List HostOp :=
  [asmWr .cmd op]

/-- `OPEN <port>, <rate>, <n>`. -/
def asmOpen (port rate n : Word) : List HostOp :=
  [asmWr .portId port, asmWr .sampleRate rate, asmWr .sampleCount n, asmWr .cmd 1#32, .wait]

/-- The two duty-cycle writes of START and UPDATE. -/
def asmDuty (d : Duty) : List HostOp :=
  [asmWr .dcLo (pack d.ch0 d.ch1 d.ch2 d.ch3), asmWr .dcHi (pack d.ch4 d.ch5 d.ch6 d.ch7)]

/-- `START d0,...,d7`. -/
def asmStart (d : Duty) : List HostOp :=
  asmDuty d ++ [asmWr .cmd 2#32, .wait]

/-- `UPDATE d0,...,d7`. -/
def asmUpdate (d : Duty) : List HostOp :=
  asmDuty d ++ [asmWr .cmd 3#32, .wait]

/-- `CLOSE`. -/
def asmClose : List HostOp :=
  [asmWr .cmd 4#32, .wait]

/-- `STATE`: the device state is bits [2:0] of the value read (43 R108). -/
def asmState : List HostOp :=
  [asmRd .status]

end Sys2Proof.Machine
end

