-- ==== Sys2Proof/Machine/Sequencer.lean ====
section
/-! DEFINITION. The clock-gated sample sequencer (42_sequencer.md): the tick, and the wrap. -/

namespace Sys2Proof.Machine

/-- S.SEQ_IDX = S.CFG_N - 1, over the integers (00 R10): never when CFG_N = 0 (log 11). -/
def atWrap (s : State) : Bool :=
  decide (s.seqIdx.toNat + 1 = s.cfgN.toNat)

/-- The byte the next tick drives: BANK[S.ACTIVE_SEL][S.SEQ_IDX] (R97). -/
def drivenByte (s : State) : Byte :=
  bankByte s s.activeSel s.seqIdx.toNat

/-- What a wrap does beyond returning the index to 0: take the pending swap, else close the gate on a stop request
(R98). -/
def wrap (s : State) : State :=
  if s.swapPending then { s with activeSel := !s.activeSel, swapPending := false }
  else if s.stopReq then { s with gate := false, stopReq := false }
  else s

/-- The sample tick (R97). -/
def tick (s : State) : State :=
  let s' := { s with out := drivenByte s, outUnknown := false }
  if atWrap s then wrap { s' with seqIdx := 0#8 } else { s' with seqIdx := s.seqIdx + 1#8 }

/-- The Sequencer's step: a tick while the gate is open; no enabled step while it is closed (R100; log 2). -/
def sequencerStep (s : State) : State :=
  if s.gate then tick s else s

end Sys2Proof.Machine
end

