-- ==== Sys2Proof/Machine/Step.lean ====
section
/-! DEFINITION. One step of the machine: one atomic step of one agent (00_scope.md R3, 20_memory.md R52). -/

namespace Sys2Proof.Machine

/-- One atomic step of the agent named. An agent with no enabled step changes nothing (log 2). -/
def agentStep (a : Agent) (s : State) : Host.Outcome State Fault Refusal :=
  match a with
  | .host => hostStep s
  | .controller => controllerStep s
  | .sequencer => .next (sequencerStep s)
  | .reset => .next (platformReset s)

/-- The state once the choice of who moves has been taken. -/
def chosen (s : State) : State :=
  { s with sched := s.sched.advance }

/-- One step: the agent whose turn it is moves (20 R52; log 1). -/
def step (s : State) : Host.Outcome State Fault Refusal :=
  agentStep (nextAgent s) (chosen s)

/-- An instruction placed where the next step fetches it (log 10): a command word latched with PHASE = EXEC and the
Controller's turn, a descriptor first in the Host's program and the Host's turn. -/
def State.withFetchWord (s : State) (nbits w : Nat) : State :=
  match rawOfTable nbits w with
  | .cmd v => { s with lCmd := v, phase := .exec, sched := ⟨.controller :: s.sched.given, s.sched.count⟩ }
  | .hostbus d =>
    { s with program := .access d :: s.program, sched := ⟨.host :: s.sched.given, s.sched.count⟩ }

end Sys2Proof.Machine
end

