-- ==== Sys2Proof/Safety.lean ====
section
/-! DEFINITION. What claims about PWM8 are stated in: its invariant (10_state.md R40), the port lines, runs of named
agents, weak fairness (70 R130), the end of a run (70 R131), and the samples of one cycle (20 R53). -/

namespace Sys2Proof.Safety

open Sys2Proof.Machine

/-! ### What a state holds -/

/-- The port lines, as far as they are known: any value while OUT_UNKNOWN = 1 (10 R30). -/
def portLines (s : State) : Option Byte :=
  if s.outUnknown then none else some s.out

/-- The waveform a bank holds: its bytes at the indices in force, 0 to CFG_N - 1 (10 R32). -/
def bankWave (s : State) (b : Bool) : List Byte :=
  (List.range s.cfgN.toNat).map (bankByte s b)

/-- Every byte of a bank at an index in force was written, and is the encoder's sample for these duty cycles. -/
def BankHolds (s : State) (b : Bool) (d : Duty) : Prop :=
  ∀ i, i < s.cfgN.toNat → readCell s.banks (bankAddr b i) = some (sample d i)

/-- The duty cycles whose waveform a pending swap brings: CLOSE's are all zero (41 R94), UPDATE's are latched (R92). -/
def pendingDuty (s : State) : Duty :=
  if s.phase = .waitStop then Duty.zero else s.lDc

/-- The configuration in force is one OPEN accepted (10 R28). -/
def ConfigInForce (s : State) : Prop :=
  1 ≤ s.cfgN.toNat ∧ s.cfgN.toNat ≤ 256 ∧ 1 ≤ s.cfgRate.toNat ∧
    s.cfgRate.toNat < s.platform.fMaxSampleHz ∧ s.cfgPort ∈ s.platform.validPorts

/-! ### Invariants -/

/-- The six claims of R40 about every reachable state. I5 says that SOME duty-cycle vector's waveform is in the active
bank; I6 says nothing of LAST_OP, which R40 speaks of only as not yet written. -/
structure SpecInvariant (s : State) : Prop where
  /-- (I1) -/
  swap_waits : s.swapPending = true → (s.phase = .waitSwap ∨ s.phase = .waitStop) ∧ s.gate = true
  /-- (I2) -/
  stop_waits : s.stopReq = true → s.phase = .waitStop ∧ s.gate = true
  /-- (I3) -/
  gate_streams : s.gate = true →
    s.devState = .streaming ∧ 1 ≤ s.cfgN.toNat ∧ s.cfgN.toNat ≤ 256 ∧ s.seqIdx.toNat < s.cfgN.toNat
  /-- (I4) -/
  streaming_gated : s.devState = .streaming → s.gate = true ∨ (s.phase = .waitStop ∧ s.stopReq = false)
  /-- (I5) -/
  active_holds : s.devState = .streaming → s.phase ≠ .exec →
    ∃ d, bankWave s s.activeSel = encodeWave d s.cfgN.toNat
  /-- (I6) -/
  wait_command : (s.phase = .waitSwap → opField s.lCmd = 3#4) ∧ (s.phase = .waitStop → opField s.lCmd = 4#4)

/-- The invariant every step keeps: R40 with what makes it inductive, and the canonical form of the banks. -/
structure MachineInv (s : State) : Prop where
  swap_waits : s.swapPending = true → (s.phase = .waitSwap ∨ s.phase = .waitStop) ∧ s.gate = true
  stop_waits : s.stopReq = true → s.phase = .waitStop ∧ s.gate = true
  gate_streams : s.gate = true → s.devState = .streaming ∧ s.seqIdx.toNat < s.cfgN.toNat
  streaming_gated : s.devState = .streaming → s.gate = true ∨ (s.phase = .waitStop ∧ s.stopReq = false)
  /-- The active bank was written whole for the configuration in force (70 R128). -/
  active_written : s.devState = .streaming → ∃ d, BankHolds s s.activeSel d
  /-- A pending swap brings a complete new waveform (10 R33). -/
  shadow_written : s.swapPending = true → BankHolds s (!s.activeSel) (pendingDuty s)
  waitSwap_command : s.phase = .waitSwap → s.lCmd = 3#32 ∧ s.devState = .streaming ∧ s.gate = true
  waitStop_command : s.phase = .waitStop → s.lCmd = 4#32 ∧ s.devState = .streaming
  /-- While CLOSE waits and the gate is open, the stop stays requested (10 R34). -/
  waitStop_requested : s.phase = .waitStop → s.gate = true → s.stopReq = true
  /-- Once an UPDATE's swap is taken, the active bank holds its waveform (41 R93). -/
  swapped_update : s.phase = .waitSwap → s.swapPending = false → BankHolds s s.activeSel s.lDc
  /-- Once a CLOSE's swap is taken, the active bank is all zero (41 R95). -/
  swapped_zero : s.phase = .waitStop → s.swapPending = false → BankHolds s s.activeSel Duty.zero
  /-- Once a CLOSE has stopped the gate, the lines are low (41 R95). -/
  stopped_low : s.phase = .waitStop → s.gate = false → portLines s = some 0#8
  config_in_force : s.devState = .opened ∨ s.devState = .streaming → ConfigInForce s
  /-- CFG_N is 0 or 1..256 (10 R14). -/
  count_bounded : s.cfgN.toNat ≤ 256
  /-- The kind of the fault in Faulted (10 R22). -/
  fault_kind : s.devState = .faulted → s.faultKind = .configurationError ∨ s.faultKind = .hardwareError
  banks_wf : Memory.wf s.banks = true

/-! ### Runs -/

/-- The steps of the agents named, in that order: one interleaving (20 R52). -/
def runAgents : List Agent → State → Host.Outcome State Fault Refusal
  | [], s => .next s
  | a :: l, s =>
    match agentStep a s with
    | .next t => runAgents l t
    | .fault r => .fault r
    | .refused r => .refused r

/-- The first n moves of an endless schedule. -/
def runSchedule (sch : Nat → Agent) (n : Nat) (s : State) : Host.Outcome State Fault Refusal :=
  runAgents ((List.range n).map sch) s

/-- Weak fairness (70 R130): the Controller and the Sequencer have their turn again and again. The Host owes nothing
(R130(c)). -/
def FairSchedule (sch : Nat → Agent) : Prop :=
  (∀ n, ∃ m, n ≤ m ∧ sch m = .controller) ∧ (∀ n, ∃ m, n ≤ m ∧ sch m = .sequencer)

/-- The platform never asserts reset. -/
def NoReset (sch : Nat → Agent) : Prop :=
  ∀ n, sch n ≠ .reset

/-- Every descriptor of the Host's program is well-formed, so that none is refused (30 R59). -/
def ProgramWellFormed (s : State) : Prop :=
  ∀ op ∈ s.program, op.wellFormed = true

/-- The end of a host program's run (70 R131): only the Sequencer may have a step left. -/
def RunEnded (s : State) : Prop :=
  s.program = [] ∧ s.phase = .idle

/-- The bytes driven from here until the cycle ends, and whether it ended at its wrap (rather than at the end of the
schedule or where the gate is found closed). Other agents' moves stand between the ticks (20 R53). -/
def cycleTrace : List Agent → State → List Byte × Bool
  | [], _ => ([], false)
  | a :: l, s =>
    if s.gate then
      match agentStep a s with
      | .next t =>
        if a = .sequencer then
          if atWrap s then ([t.out], true) else (t.out :: (cycleTrace l t).1, (cycleTrace l t).2)
        else cycleTrace l t
      | .fault _ => ([], false)
      | .refused _ => ([], false)
    else ([], false)

/-- A number of ticks in a row. -/
def ticks : Nat → State → State
  | 0, s => s
  | n + 1, s => ticks n (sequencerStep s)

end Sys2Proof.Safety
end

