-- ==== Sys2Proof/Certificates/Slice0/Obligations.lean ====
section
/-! DEFINITION. What is to be proved of the model. Each statement's docstring names the rule of spec/ it formalises. -/

open Sys2Proof Sys2Proof.Machine Sys2Proof.Safety

/-! ### Encoding (30_encoding.md) -/

/-- Decoding an encoded instruction gives it back, with every operand at every value (R59, R61, R62). -/
def Obligations.DecodeInvertsEncode : Prop :=
  ∀ i : Instr, decode (encode i) = some i

/-- Encoding a decoded word gives the word back, so no two raw words are one instruction and no bit is dropped
(R59, R61, R62). -/
def Obligations.EncodeInvertsDecode : Prop :=
  ∀ (r : RawInstr) (i : Instr), decode r = some i → encode i = r

/-- A CMD word is illegal exactly when bits [31:4] are not 0 or OP is none of 1 to 4; a descriptor is refused exactly
when RSV is not 0, or W = 0 and DATA is not 0 (R59, R63). -/
def Obligations.DecodersRefuseExactlyTheReserved : Prop :=
  (∀ w : Word, (∃ e, decodeCmd w = .error e) ↔
    (w.extractLsb' 4 28 ≠ 0#28 ∨ ¬ (1 ≤ (w.extractLsb' 0 4).toNat ∧ (w.extractLsb' 0 4).toNat ≤ 4))) ∧
  (∀ d : Descriptor, decodeHostbus d = .error .reservedBits ↔ d.extractLsb' 42 5 ≠ 0#5) ∧
  (∀ d : Descriptor, decodeHostbus d = .error .readData ↔
    (d.extractLsb' 42 5 = 0#5 ∧ d.getLsbD 47 = false ∧ d.extractLsb' 0 32 ≠ 0#32))

/-- The worked encodings of R67, read both ways. -/
def Obligations.WorkedEncodingsAgree : Prop :=
  (encode (.wr .b4 0x10#8 3#32) = .hostbus 0x821000000003#48 ∧
    decode (.hostbus 0x821000000003#48) = some (.wr .b4 0x10#8 3#32)) ∧
  (encode (.wr .b4 0x00#8 2#32) = .hostbus 0x820000000002#48 ∧
    decode (.hostbus 0x820000000002#48) = some (.wr .b4 0x00#8 2#32)) ∧
  (encode (.rd .b4 0x04#8) = .hostbus 0x020400000000#48 ∧
    decode (.hostbus 0x020400000000#48) = some (.rd .b4 0x04#8)) ∧
  (encode (.wr .b1 0x1C#8 0x80#32) = .hostbus 0x801C00000080#48 ∧
    decode (.hostbus 0x801C00000080#48) = some (.wr .b1 0x1C#8 0x80#32))

/-! ### A step runs the decoded instruction -/

/-- On the Host's turn, a well-formed descriptor at the head of its program is fetched and run (R59). The schedule and
the program are the model's own fields (logs 1 and 10). -/
def Obligations.StepRunsTheHostsDescriptor : Prop :=
  ∀ (s : State) (d : Descriptor) (rest : List HostOp) (i : Instr),
    nextAgent s = .host → s.program = .access d :: rest → decodeHostbus d = .ok i →
    step s = exec i { s with sched := s.sched.advance, program := rest }

/-- On the Controller's turn in PHASE = EXEC, a legal latched word is run (R84, R86). The schedule is the model's own
field (log 1). -/
def Obligations.StepRunsTheLatchedCommand : Prop :=
  ∀ (s : State) (i : Instr),
    nextAgent s = .controller → s.phase = .exec → decodeCmd s.lCmd = .ok i →
    step s = exec i { s with sched := s.sched.advance }

/-- A descriptor that is not well-formed is refused by the decoder's name for what is wrong (R59). That the run stops
there is the model's choice (log 8). -/
def Obligations.MalformedDescriptorIsRefused : Prop :=
  ∀ (s : State) (d : Descriptor) (rest : List HostOp) (e : HostbusError),
    nextAgent s = .host → s.program = .access d :: rest → decodeHostbus d = .error e →
    step s = .refused (.malformedDescriptor e)

/-- No instruction traps: each answers a next state in every state (R110). -/
def Obligations.EveryInstructionAnswersANextState : Prop :=
  ∀ (i : Instr) (s : State), ∃ t, exec i s = .next t

/-- Every finite interleaving of the agents is a run of the machine: it happens when the choices are given in that
order (R52). The schedule is the model's own field (log 1). -/
def Obligations.EveryInterleavingIsARun : Prop :=
  ∀ (l : List Agent) (s : State) (n : Nat),
    (∀ t, runAgents l s = .next t →
      core.run l.length { s with sched := ⟨l, n⟩ } = .next { t with sched := ⟨[], n + l.length⟩ }) ∧
    (∀ r, runAgents l s = .refused r → core.run l.length { s with sched := ⟨l, n⟩ } = .refused r)

/-! ### Host access (43_host_access.md) -/

/-- RD returns each register as R106 lists it and changes no element of PWM8; a read of OUT while the lines are unknown
returns a draw; a misaligned, narrow or wide read gets BUS_ERROR and no data (R106). -/
def Obligations.HostReadFollowsTheRule : Prop :=
  ∀ s : State,
    (∀ (width : Width) (off : Byte), off.toNat < 0x40 → ¬ (width.bytes = 4 ∧ off.toNat % 4 = 0) →
      exec (.rd width off) s = .next { s with bus := .busError }) ∧
    exec (.rd .b4 0x00#8) s = .next { s with bus := .data 0#32 } ∧
    exec (.rd .b4 0x04#8) s = .next { s with bus := .data (0#14 ++ BitVec.ofBool s.outUnknown ++
      BitVec.ofBool s.stopReq ++ s.lastOp ++ s.result.code ++ BitVec.ofBool s.overrun ++ BitVec.ofBool s.gate ++
      BitVec.ofBool s.activeSel ++ BitVec.ofBool s.swapPending ++ BitVec.ofBool (decide (s.phase ≠ .idle)) ++
      s.devState.code) } ∧
    exec (.rd .b4 0x08#8) s = .next { s with bus := .data s.errCode } ∧
    exec (.rd .b4 0x0C#8) s = .next { s with bus := .data (s.faultKind.code.setWidth 32) } ∧
    exec (.rd .b4 0x10#8) s = .next { s with bus := .data s.argPort } ∧
    exec (.rd .b4 0x14#8) s = .next { s with bus := .data s.argRate } ∧
    exec (.rd .b4 0x18#8) s = .next { s with bus := .data s.argCount } ∧
    exec (.rd .b4 0x1C#8) s = .next { s with
      bus := .data (s.argDc.ch3 ++ s.argDc.ch2 ++ s.argDc.ch1 ++ s.argDc.ch0) } ∧
    exec (.rd .b4 0x20#8) s = .next { s with
      bus := .data (s.argDc.ch7 ++ s.argDc.ch6 ++ s.argDc.ch5 ++ s.argDc.ch4) } ∧
    exec (.rd .b4 0x24#8) s = .next { s with bus := .data s.cfgPort } ∧
    exec (.rd .b4 0x28#8) s = .next { s with bus := .data s.cfgRate } ∧
    exec (.rd .b4 0x2C#8) s = .next { s with bus := .data (s.cfgN.setWidth 32) } ∧
    exec (.rd .b4 0x30#8) s = .next { s with bus := .data (s.seqIdx.setWidth 32) } ∧
    (s.outUnknown = false → exec (.rd .b4 0x34#8) s = .next { s with bus := .data (s.out.setWidth 32) }) ∧
    (s.outUnknown = true → exec (.rd .b4 0x34#8) s = .next { s with
      bus := .data ((lineDraw s).setWidth 32), lines := s.lines.advance }) ∧
    exec (.rd .b4 0x38#8) s = .next { s with bus := .data 0#32 } ∧
    exec (.rd .b4 0x3C#8) s = .next { s with bus := .data 0#32 }

/-- While the lines are unknown, every byte can be what a read of OUT returns, and each read takes a fresh one (R30).
How the draws are held is the model's own (log 4). -/
def Obligations.UnknownOutReadsAreAnyBytes : Prop :=
  ∀ (s : State) (b : Byte) (rest : List Byte), s.outUnknown = true → s.lines.given = b :: rest →
    exec (.rd .b4 0x34#8) s = .next { s with
      bus := .data (b.setWidth 32), lines := ⟨rest, s.lines.count + 1⟩ }

/-- STATUS shows each state element at its bits, its reserved bits read 0, it is 0 at reset, and a write to it is
ignored (R20). -/
def Obligations.StatusShowsTheState : Prop :=
  (∀ s : State, ∃ v : Word,
    exec (.rd .b4 0x04#8) s = .next { s with bus := .data v } ∧
    v.extractLsb' 0 3 = s.devState.code ∧
    v.getLsbD 3 = decide (s.phase ≠ .idle) ∧
    v.getLsbD 4 = s.swapPending ∧
    v.getLsbD 5 = s.activeSel ∧
    v.getLsbD 6 = s.gate ∧
    v.getLsbD 7 = s.overrun ∧
    v.extractLsb' 8 4 = s.result.code ∧
    v.extractLsb' 12 4 = s.lastOp ∧
    v.getLsbD 16 = s.stopReq ∧
    v.getLsbD 17 = s.outUnknown ∧
    v.extractLsb' 18 14 = 0#14) ∧
  statusWord State.reset = 0#32 ∧
  (∀ (s : State) (v : Word), exec (.wr .b4 0x04#8 v) s = .next { s with bus := .written })

/-- Any access that is not 4 bytes at a multiple of 4 changes no state and gets BUS_ERROR, with no data (R46). -/
def Obligations.MisalignedAccessGetsBusError : Prop :=
  ∀ (s : State) (width : Width) (off : Byte) (v : Word),
    off.toNat < 0x40 → ¬ (width.bytes = 4 ∧ off.toNat % 4 = 0) →
    exec (.rd width off) s = .next { s with bus := .busError } ∧
    exec (.wr width off v) s = .next { s with bus := .busError }

/-- A CMD write while IDLE latches the word and the arguments and sets PHASE = EXEC, whatever the word is; nothing else
of PWM8 changes (R82). -/
def Obligations.CmdWriteIsAcceptedWhenIdle : Prop :=
  ∀ (s : State) (v : Word), s.phase = .idle →
    exec (.wr .b4 0x00#8 v) s = .next { s with
      lCmd := v, lPort := s.argPort, lRate := s.argRate, lCount := s.argCount, lDc := s.argDc,
      phase := .exec, bus := .written }

/-- A CMD write while a command is in flight sets OVERRUN and changes nothing else (R83). -/
def Obligations.CmdWriteIsDroppedWhenBusy : Prop :=
  ∀ (s : State) (v : Word), s.phase ≠ .idle →
    exec (.wr .b4 0x00#8 v) s = .next { s with overrun := true, bus := .written }

/-- WR as R107 has it: BUS_ERROR and no change for a misaligned, narrow or wide write; CMD accepted while IDLE, else
OVERRUN; the argument registers store; every other offset of the window ignores the write. -/
def Obligations.HostWriteFollowsTheRule : Prop :=
  ∀ (s : State) (v : Word),
    (∀ (width : Width) (off : Byte), off.toNat < 0x40 → ¬ (width.bytes = 4 ∧ off.toNat % 4 = 0) →
      exec (.wr width off v) s = .next { s with bus := .busError }) ∧
    (s.phase = .idle → exec (.wr .b4 0x00#8 v) s = .next { s with
      lCmd := v, lPort := s.argPort, lRate := s.argRate, lCount := s.argCount, lDc := s.argDc,
      phase := .exec, bus := .written }) ∧
    (s.phase ≠ .idle → exec (.wr .b4 0x00#8 v) s = .next { s with overrun := true, bus := .written }) ∧
    exec (.wr .b4 0x10#8 v) s = .next { s with argPort := v, bus := .written } ∧
    exec (.wr .b4 0x14#8 v) s = .next { s with argRate := v, bus := .written } ∧
    exec (.wr .b4 0x18#8 v) s = .next { s with argCount := v, bus := .written } ∧
    exec (.wr .b4 0x1C#8 v) s = .next { s with bus := .written, argDc := { s.argDc with
      ch0 := v.extractLsb' 0 8, ch1 := v.extractLsb' 8 8, ch2 := v.extractLsb' 16 8, ch3 := v.extractLsb' 24 8 } } ∧
    exec (.wr .b4 0x20#8 v) s = .next { s with bus := .written, argDc := { s.argDc with
      ch4 := v.extractLsb' 0 8, ch5 := v.extractLsb' 8 8, ch6 := v.extractLsb' 16 8, ch7 := v.extractLsb' 24 8 } } ∧
    (∀ off : Byte,
      off ∈ [0x04#8, 0x08#8, 0x0C#8, 0x24#8, 0x28#8, 0x2C#8, 0x30#8, 0x34#8, 0x38#8, 0x3C#8] →
      exec (.wr .b4 off v) s = .next { s with bus := .written })

/-- Every value written to an argument register reads back unchanged (R23 to R27, R51). -/
def Obligations.ArgumentsReadBack : Prop :=
  ∀ (s : State) (off : Byte) (v : Word), off ∈ [0x10#8, 0x14#8, 0x18#8, 0x1C#8, 0x20#8] →
    ∃ t u, exec (.wr .b4 off v) s = .next t ∧ exec (.rd .b4 off) t = .next u ∧ u.bus = .data v

/-- An access at offset 0x40 or above does not reach PWM8 (R42): no element of it changes. That the answer is a free
value of the platform is the model's choice (log 7). -/
def Obligations.AccessBeyondTheWindowTouchesNothing : Prop :=
  ∀ (s : State) (width : Width) (off : Byte) (v : Word), 0x40 ≤ off.toNat →
    exec (.rd width off) s = .next { s with bus := platformAnswer s, outside := s.outside.advance } ∧
    exec (.wr width off v) s = .next { s with bus := platformAnswer s, outside := s.outside.advance }

/-- WAIT reads STATUS and repeats while the BUSY bit read is 1 (R66). That WAIT is an operation of the Host's program
is the model's form (log 17). -/
def Obligations.WaitRepeatsWhileBusy : Prop :=
  ∀ (s : State) (rest : List HostOp), s.program = .wait :: rest →
    (s.phase ≠ .idle → agentStep .host s = .next { s with bus := .data (statusWord s) }) ∧
    (s.phase = .idle → agentStep .host s = .next { s with bus := .data (statusWord s), program := rest })

/-- A Host step writes only the argument registers, OVERRUN, the latches and PHASE: never the banks, the configuration,
the device state, the result, the error records or the Sequencer's elements (R41, R48). -/
def Obligations.HostStepsTouchOnlyTheirRegisters : Prop :=
  ∀ s t : State, agentStep .host s = .next t →
    t = { s with
      argPort := t.argPort, argRate := t.argRate, argCount := t.argCount, argDc := t.argDc, overrun := t.overrun,
      lCmd := t.lCmd, lPort := t.lPort, lRate := t.lRate, lCount := t.lCount, lDc := t.lDc, phase := t.phase,
      bus := t.bus, program := t.program, lines := t.lines, outside := t.outside }

/-- The Controller reads only the latches: whatever the argument registers hold, its step does the same and leaves them
(R36). -/
def Obligations.ArgumentsDoNotReachTheCommandInFlight : Prop :=
  ∀ (s t : State) (port rate count : Word) (dc : Duty), agentStep .controller s = .next t →
    agentStep .controller { s with argPort := port, argRate := rate, argCount := count, argDc := dc } =
      .next { t with argPort := port, argRate := rate, argCount := count, argDc := dc }

/-! ### Commands (41_commands.md) -/

/-- OPEN's execute step: the fault re-reported in Faulted; ILLEGAL_STATE in Open and Streaming; CONFIGURATION_ERROR
and Faulted unless exactly the three conditions hold; HARDWARE_ERROR and Faulted on a Device error; else the
configuration is written and the device is Open (R89, R90). -/
def Obligations.OpenFollowsTheRule : Prop :=
  decodeCmd 0x00000001#32 = .ok .cmdOpen ∧
  ∀ s : State,
    (s.devState = .faulted →
      exec .cmdOpen s = .next { s with result := s.faultKind, lastOp := s.lCmd.extractLsb' 0 4, phase := .idle }) ∧
    (s.devState = .opened ∨ s.devState = .streaming →
      exec .cmdOpen s = .next { s with
        result := .illegalState, lastOp := s.lCmd.extractLsb' 0 4, phase := .idle }) ∧
    (s.devState = .unopened ∨ s.devState = .closed →
      (¬ ((1 ≤ s.lCount.toNat ∧ s.lCount.toNat ≤ 256) ∧
          (1 ≤ s.lRate.toNat ∧ s.lRate.toNat < s.platform.fMaxSampleHz) ∧ s.lPort ∈ s.platform.validPorts) →
        exec .cmdOpen s = .next { s with
          devState := .faulted, faultKind := .configurationError, gate := false, swapPending := false,
          stopReq := false, result := .configurationError, lastOp := s.lCmd.extractLsb' 0 4, phase := .idle }) ∧
      ((1 ≤ s.lCount.toNat ∧ s.lCount.toNat ≤ 256) ∧
          (1 ≤ s.lRate.toNat ∧ s.lRate.toNat < s.platform.fMaxSampleHz) ∧ s.lPort ∈ s.platform.validPorts →
        (∀ c, deviceAnswer s = some c →
          exec .cmdOpen s = .next { s with
            devState := .faulted, faultKind := .hardwareError, errCode := c, outUnknown := true, gate := false,
            swapPending := false, stopReq := false, device := s.device.advance,
            result := .hardwareError, lastOp := s.lCmd.extractLsb' 0 4, phase := .idle }) ∧
        (deviceAnswer s = none →
          ∃ t, exec .cmdOpen s = .next t ∧ t.cfgN.toNat = s.lCount.toNat ∧
            t = { s with
              cfgPort := s.lPort, cfgRate := s.lRate, cfgN := t.cfgN, devState := .opened,
              device := s.device.advance,
              result := .ok, lastOp := s.lCmd.extractLsb' 0 4, phase := .idle })))

/-- START's execute step: the fault re-reported in Faulted; ILLEGAL_STATE elsewhere but in Open; HARDWARE_ERROR and
Faulted on a Device error; else bank 0 holds the waveform at the indices in force, everything else of the bank space is
as it was, and the stream starts at sample 0 (R91). -/
def Obligations.StartFollowsTheRule : Prop :=
  decodeCmd 0x00000002#32 = .ok .cmdStart ∧
  ∀ s : State,
    (s.devState = .faulted →
      exec .cmdStart s = .next { s with result := s.faultKind, lastOp := s.lCmd.extractLsb' 0 4, phase := .idle }) ∧
    (s.devState = .unopened ∨ s.devState = .streaming ∨ s.devState = .closed →
      exec .cmdStart s = .next { s with
        result := .illegalState, lastOp := s.lCmd.extractLsb' 0 4, phase := .idle }) ∧
    (s.devState = .opened →
      (∀ c, deviceAnswer s = some c →
        exec .cmdStart s = .next { s with
          devState := .faulted, faultKind := .hardwareError, errCode := c, outUnknown := true, gate := false,
          swapPending := false, stopReq := false, device := s.device.advance,
          result := .hardwareError, lastOp := s.lCmd.extractLsb' 0 4, phase := .idle }) ∧
      (deviceAnswer s = none →
        ∃ t, exec .cmdStart s = .next t ∧
          t = { s with
            activeSel := false, swapPending := false, stopReq := false, seqIdx := 0#8, gate := true,
            devState := .streaming, device := s.device.advance, banks := t.banks,
            result := .ok, lastOp := s.lCmd.extractLsb' 0 4, phase := .idle } ∧
          ∀ a, readCell t.banks a =
            if bankAddr false 0 ≤ a ∧ a < bankAddr false 0 + s.cfgN.toNat
            then (encodeWave s.lDc s.cfgN.toNat)[a - bankAddr false 0]? else readCell s.banks a))

/-- UPDATE's execute step: the fault re-reported in Faulted; NOT_STREAMING elsewhere but in Streaming; HARDWARE_ERROR
and Faulted on a Device error; else the shadow bank holds the waveform at the indices in force, everything else of the
bank space is as it was, the swap is pending and the command stays in flight (R92). -/
def Obligations.UpdateFollowsTheRule : Prop :=
  decodeCmd 0x00000003#32 = .ok .cmdUpdate ∧
  ∀ s : State,
    (s.devState = .faulted →
      exec .cmdUpdate s = .next { s with result := s.faultKind, lastOp := s.lCmd.extractLsb' 0 4, phase := .idle }) ∧
    (s.devState = .unopened ∨ s.devState = .opened ∨ s.devState = .closed →
      exec .cmdUpdate s = .next { s with
        result := .notStreaming, lastOp := s.lCmd.extractLsb' 0 4, phase := .idle }) ∧
    (s.devState = .streaming →
      (∀ c, deviceAnswer s = some c →
        exec .cmdUpdate s = .next { s with
          devState := .faulted, faultKind := .hardwareError, errCode := c, outUnknown := true, gate := false,
          swapPending := false, stopReq := false, device := s.device.advance,
          result := .hardwareError, lastOp := s.lCmd.extractLsb' 0 4, phase := .idle }) ∧
      (deviceAnswer s = none →
        ∃ t, exec .cmdUpdate s = .next t ∧
          t = { s with
            swapPending := true, phase := .waitSwap, device := s.device.advance, banks := t.banks } ∧
          ∀ a, readCell t.banks a =
            if bankAddr (!s.activeSel) 0 ≤ a ∧ a < bankAddr (!s.activeSel) 0 + s.cfgN.toNat
            then (encodeWave s.lDc s.cfgN.toNat)[a - bankAddr (!s.activeSel) 0]? else readCell s.banks a))

/-- CLOSE's execute step: OK and nothing else in Closed and Unopened; in Streaming the shadow bank gets the all-zero
waveform, the swap and the stop are requested and the command stays in flight; in Open and Faulted the state becomes
Closed whatever the Device answers (R94). -/
def Obligations.CloseFollowsTheRule : Prop :=
  decodeCmd 0x00000004#32 = .ok .cmdClose ∧
  ∀ s : State,
    (s.devState = .closed ∨ s.devState = .unopened →
      exec .cmdClose s = .next { s with result := .ok, lastOp := s.lCmd.extractLsb' 0 4, phase := .idle }) ∧
    (s.devState = .streaming →
      ∃ t, exec .cmdClose s = .next t ∧
        t = { s with swapPending := true, stopReq := true, phase := .waitStop, banks := t.banks } ∧
        ∀ a, readCell t.banks a =
          if bankAddr (!s.activeSel) 0 ≤ a ∧ a < bankAddr (!s.activeSel) 0 + s.cfgN.toNat
          then some 0#8 else readCell s.banks a) ∧
    (s.devState = .opened ∨ s.devState = .faulted →
      (deviceAnswer s = none →
        exec .cmdClose s = .next { s with
          devState := .closed, device := s.device.advance,
          result := .ok, lastOp := s.lCmd.extractLsb' 0 4, phase := .idle }) ∧
      (∀ c, deviceAnswer s = some c →
        exec .cmdClose s = .next { s with
          devState := .closed, errCode := c, outUnknown := true, device := s.device.advance,
          result := .hardwareError, lastOp := s.lCmd.extractLsb' 0 4, phase := .idle }))

/-- In Faulted, OPEN, START and UPDATE complete with FAULT_KIND, consult no Device and change no other state (R88). -/
def Obligations.FaultedCommandsReportTheFault : Prop :=
  ∀ (s : State) (i : Instr), s.devState = .faulted → i ∈ [Instr.cmdOpen, .cmdStart, .cmdUpdate] →
    exec i s = .next { s with result := s.faultKind, lastOp := s.lCmd.extractLsb' 0 4, phase := .idle }

/-- An illegal word completes with ILLEGAL_COMMAND in every state, Faulted included, and changes no other state
(R63, R87). -/
def Obligations.IllegalWordCompletes : Prop :=
  ∀ s : State, s.phase = .exec →
    (s.lCmd.extractLsb' 4 28 ≠ 0#28 ∨
      ¬ (1 ≤ (s.lCmd.extractLsb' 0 4).toNat ∧ (s.lCmd.extractLsb' 0 4).toNat ≤ 4)) →
    agentStep .controller s = .next { s with
      result := .illegalCommand, lastOp := s.lCmd.extractLsb' 0 4, phase := .idle }

/-- The UPDATE completion step: enabled once the swap is taken, it completes with OK (R93). That a turn without an
enabled step leaves the state is the model's choice (log 2). -/
def Obligations.UpdateCompletesAfterTheSwap : Prop :=
  ∀ s : State, s.phase = .waitSwap →
    (s.swapPending = true → agentStep .controller s = .next s) ∧
    (s.swapPending = false → agentStep .controller s = .next { s with
      result := .ok, lastOp := s.lCmd.extractLsb' 0 4, phase := .idle })

/-- The CLOSE completion step: enabled once the gate is closed; the state becomes Closed whatever the Device answers
(R95). That a turn without an enabled step leaves the state is the model's choice (log 2). -/
def Obligations.CloseCompletesAfterTheStop : Prop :=
  ∀ s : State, s.phase = .waitStop →
    (s.gate = true → agentStep .controller s = .next s) ∧
    (s.gate = false →
      (deviceAnswer s = none → agentStep .controller s = .next { s with
        devState := .closed, device := s.device.advance,
        result := .ok, lastOp := s.lCmd.extractLsb' 0 4, phase := .idle }) ∧
      (∀ c, deviceAnswer s = some c → agentStep .controller s = .next { s with
        devState := .closed, errCode := c, outUnknown := true, device := s.device.advance,
        result := .hardwareError, lastOp := s.lCmd.extractLsb' 0 4, phase := .idle }))

/-- When the Controller's step completes an UPDATE that waited, the result is OK and the bank active after it holds the
UPDATE's waveform (R93). -/
def Obligations.CompletedUpdateIsActive : Prop :=
  ∀ s t : State, MachineInv s → s.phase = .waitSwap → agentStep .controller s = .next t → t.phase = .idle →
    t.result = .ok ∧ bankWave t t.activeSel = encodeWave s.lDc s.cfgN.toNat

/-- When a CLOSE from Streaming completes without a Device error, the lines are low and stay so (R95). -/
def Obligations.ClosedStreamLeavesTheLinesLow : Prop :=
  ∀ s : State, MachineInv s → s.phase = .waitStop → s.gate = false → deviceAnswer s = none →
    ∃ t, agentStep .controller s = .next t ∧ t.devState = .closed ∧ t.phase = .idle ∧ t.result = .ok ∧
      portLines t = some 0#8 ∧ ∀ n, ticks n t = t

/-! ### Faults (60_exceptions.md) -/

/-- Faults are precise: a command that enters Faulted writes no configuration and no bank, and leaves the selection, the
index and the port as they were; the gate closes (R113, R114). -/
def Obligations.FaultsArePrecise : Prop :=
  ∀ (s t : State) (i : Instr), exec i s = .next t → s.devState ≠ .faulted → t.devState = .faulted →
    t.result = t.faultKind ∧
    (t.faultKind = .configurationError → t.errCode = s.errCode ∧ t.outUnknown = s.outUnknown ∧ t.device = s.device) ∧
    (t.faultKind = .hardwareError → deviceAnswer s = some t.errCode ∧ t.outUnknown = true) ∧
    (t.faultKind = .configurationError ∨ t.faultKind = .hardwareError) ∧
    t = { s with
      devState := .faulted, faultKind := t.faultKind, errCode := t.errCode, outUnknown := t.outUnknown,
      gate := false, swapPending := false, stopReq := false, device := t.device,
      result := t.result, lastOp := s.lCmd.extractLsb' 0 4, phase := .idle }

/-- The Device is consulted exactly at the execute steps of OPEN, START and UPDATE after their checks, at CLOSE's execute
step in Open or Faulted, and at CLOSE's completion step (R112). -/
def Obligations.DeviceIsConsultedExactlyThere : Prop :=
  ∀ (a : Agent) (s t : State), agentStep a s = .next t →
    (t.device = s.device.advance ↔
      a = .controller ∧
        ((s.phase = .exec ∧
          ((s.lCmd = 1#32 ∧ (s.devState = .unopened ∨ s.devState = .closed) ∧
              (1 ≤ s.lCount.toNat ∧ s.lCount.toNat ≤ 256) ∧
              (1 ≤ s.lRate.toNat ∧ s.lRate.toNat < s.platform.fMaxSampleHz) ∧ s.lPort ∈ s.platform.validPorts) ∨
            (s.lCmd = 2#32 ∧ s.devState = .opened) ∨ (s.lCmd = 3#32 ∧ s.devState = .streaming) ∨
            (s.lCmd = 4#32 ∧ (s.devState = .opened ∨ s.devState = .faulted)))) ∨
          (s.phase = .waitStop ∧ s.gate = false))) ∧
    (t.device = s.device.advance ∨ t.device = s.device)

/-- The only ways out of Faulted are CLOSE, to Closed, and reset (R115). -/
def Obligations.FaultedIsLeftOnlyByCloseOrReset : Prop :=
  ∀ (a : Agent) (s t : State), MachineInv s → s.devState = .faulted → agentStep a s = .next t → t.devState ≠ .faulted →
    a = .reset ∨ (a = .controller ∧ s.phase = .exec ∧ s.lCmd = 4#32 ∧ t.devState = .closed)

/-- The transitions of the device state machine: no others happen without a reset (R96). -/
def Obligations.DeviceStateMovesAsTheTableSays : Prop :=
  ∀ (a : Agent) (s t : State), MachineInv s → agentStep a s = .next t → a ≠ .reset → t.devState ≠ s.devState →
    (s.devState, t.devState) ∈
      [(DevState.unopened, DevState.opened), (.unopened, .faulted), (.closed, .opened), (.closed, .faulted),
        (.opened, .streaming), (.opened, .faulted), (.opened, .closed), (.streaming, .faulted),
        (.streaming, .closed), (.faulted, .closed)]

/-! ### Sequencer (42_sequencer.md) -/

/-- The tick: it drives the active bank's byte at the index; inside a cycle the index advances by one; at a wrap it
returns to 0 and the swap is taken, else a requested stop closes the gate (R97, R98). The index comparison is over the
integers (log 11). -/
def Obligations.TickFollowsTheRule : Prop :=
  ∀ s : State, s.gate = true →
    ((s.seqIdx.toNat : Int) ≠ (s.cfgN.toNat : Int) - 1 →
      agentStep .sequencer s = .next { s with
        out := bankByte s s.activeSel s.seqIdx.toNat, outUnknown := false, seqIdx := s.seqIdx + 1#8 }) ∧
    ((s.seqIdx.toNat : Int) = (s.cfgN.toNat : Int) - 1 →
      (s.swapPending = true → agentStep .sequencer s = .next { s with
        out := bankByte s s.activeSel s.seqIdx.toNat, outUnknown := false, seqIdx := 0#8,
        activeSel := !s.activeSel, swapPending := false }) ∧
      (s.swapPending = false → s.stopReq = true → agentStep .sequencer s = .next { s with
        out := bankByte s s.activeSel s.seqIdx.toNat, outUnknown := false, seqIdx := 0#8,
        gate := false, stopReq := false }) ∧
      (s.swapPending = false → s.stopReq = false → agentStep .sequencer s = .next { s with
        out := bankByte s s.activeSel s.seqIdx.toNat, outUnknown := false, seqIdx := 0#8 }))

/-- While the gate is closed the Sequencer changes nothing (R100). That a turn without an enabled step leaves the state
is the model's choice (log 2). -/
def Obligations.ClosedGateStopsTheSequencer : Prop :=
  ∀ s : State, s.gate = false → agentStep .sequencer s = .next s

/-- The Sequencer writes only OUT, OUT_UNKNOWN, SEQ_IDX, ACTIVE_SEL, SWAP_PENDING, GATE and STOP_REQ (R103). -/
def Obligations.SequencerWritesOnlyItsElements : Prop :=
  ∀ s t : State, agentStep .sequencer s = .next t →
    t = { s with
      out := t.out, outUnknown := t.outUnknown, seqIdx := t.seqIdx, activeSel := t.activeSel,
      swapPending := t.swapPending, gate := t.gate, stopReq := t.stopReq }

/-- Every byte a tick drives was written since reset: no unspecified bank byte reaches the port (R128). -/
def Obligations.OnlyWrittenBytesAreDriven : Prop :=
  ∀ s t : State, MachineInv s → s.gate = true → agentStep .sequencer s = .next t →
    readCell s.banks (bankAddr s.activeSel s.seqIdx.toNat) = some t.out ∧ t.outUnknown = false

/-- After UPDATE's execute step the swap is taken at exactly the tick that ends the cycle: 1 to N ticks, the old bank
active until then (R93, R138). -/
def Obligations.UpdateSwapsAtTheEndOfTheCycle : Prop :=
  ∀ s : State, MachineInv s → s.phase = .waitSwap → s.swapPending = true →
    (1 ≤ s.cfgN.toNat - s.seqIdx.toNat ∧ s.cfgN.toNat - s.seqIdx.toNat ≤ s.cfgN.toNat) ∧
    (∀ k, k < s.cfgN.toNat - s.seqIdx.toNat →
      (ticks k s).swapPending = true ∧ (ticks k s).activeSel = s.activeSel ∧
        (ticks k s).seqIdx.toNat = s.seqIdx.toNat + k) ∧
    (ticks (s.cfgN.toNat - s.seqIdx.toNat) s).swapPending = false ∧
    (ticks (s.cfgN.toNat - s.seqIdx.toNat) s).activeSel = (!s.activeSel) ∧
    (ticks (s.cfgN.toNat - s.seqIdx.toNat) s).seqIdx = 0#8 ∧
    (ticks (s.cfgN.toNat - s.seqIdx.toNat) s).gate = true

/-- After CLOSE's execute step from Streaming the gate closes at exactly the end of the next cycle, N+1 to 2N ticks
later, and the last N ticks drive 0 (R95, R138). -/
def Obligations.CloseStopsAfterOneZeroCycle : Prop :=
  ∀ s : State, MachineInv s → s.phase = .waitStop → s.swapPending = true →
    (∀ k, k < s.cfgN.toNat - s.seqIdx.toNat + s.cfgN.toNat → (ticks k s).gate = true) ∧
    (∀ k, s.cfgN.toNat - s.seqIdx.toNat < k → k ≤ s.cfgN.toNat - s.seqIdx.toNat + s.cfgN.toNat →
      (ticks k s).out = 0#8) ∧
    (ticks (s.cfgN.toNat - s.seqIdx.toNat + s.cfgN.toNat) s).gate = false ∧
    s.cfgN.toNat + 1 ≤ s.cfgN.toNat - s.seqIdx.toNat + s.cfgN.toNat ∧
    s.cfgN.toNat - s.seqIdx.toNat + s.cfgN.toNat ≤ 2 * s.cfgN.toNat

/-! ### Encoder (40_encoder.md) -/

/-- encode(dc, N) has N samples, and bit j of sample i is 1 iff i < dc[j] (R68). -/
def Obligations.SampleBitsFollowTheFormula : Prop :=
  ∀ (d : Duty) (n : Nat), (encodeWave d n).length = n ∧
    ∀ i, i < n → ∃ w, (encodeWave d n)[i]? = some w ∧
      ∀ j : Fin 8, w.getLsbD j.val = decide (i < (d.channel j).toNat)

/-- Bit-plane j is a run of min(dc[j], N) ones, then zeros (R72, R73). -/
def Obligations.BitPlanesAreLeadingRuns : Prop :=
  ∀ (d : Duty) (n : Nat) (j : Fin 8),
    (encodeWave d n).map (fun w => w.getLsbD j.val) =
      List.replicate (min (d.channel j).toNat n) true ++ List.replicate (n - min (d.channel j).toNat n) false ∧
    (encodeWave d n).countP (fun w => w.getLsbD j.val) = min (d.channel j).toNat n

/-- Samples never gain a bit along the cycle, and the bits set in sample i are as many as the channels above i (R74). -/
def Obligations.SamplesNeverGainABit : Prop :=
  ∀ (d : Duty) (n i : Nat) (v w : Byte), (encodeWave d n)[i]? = some v →
    ((List.finRange 8).countP (fun j => v.getLsbD j.val) =
      (List.finRange 8).countP (fun j => decide (i < (d.channel j).toNat))) ∧
    ((encodeWave d n)[i + 1]? = some w →
      w &&& ~~~v = 0#8 ∧
      (List.finRange 8).countP (fun j => w.getLsbD j.val) ≤ (List.finRange 8).countP (fun j => v.getLsbD j.val))

/-- The corner cases of the encoder: dc = 0 is always low, dc >= N always high, dc = 255 at N = 256 low at sample 255
only, and N = 1 is the single sample of the nonzero channels (R77, R78, R79, R80). -/
def Obligations.EncoderCornerCases : Prop :=
  (∀ (d : Duty) (n : Nat) (j : Fin 8), d.channel j = 0#8 →
    ∀ w ∈ encodeWave d n, w.getLsbD j.val = false) ∧
  (∀ n, encodeWave Duty.zero n = List.replicate n 0#8) ∧
  (∀ (d : Duty) (n : Nat) (j : Fin 8), n ≤ (d.channel j).toNat →
    n ≤ 255 ∧ ∀ w ∈ encodeWave d n, w.getLsbD j.val = true) ∧
  (∀ (d : Duty) (j : Fin 8), d.channel j = 255#8 →
    ∀ i w, (encodeWave d 256)[i]? = some w → w.getLsbD j.val = decide (i < 255)) ∧
  (encodeWave ⟨255#8, 255#8, 255#8, 255#8, 255#8, 255#8, 255#8, 255#8⟩ 256 = List.replicate 255 0xFF#8 ++ [0x00#8]) ∧
  (∀ d : Duty, ∃ w, encodeWave d 1 = [w] ∧ ∀ j : Fin 8, w.getLsbD j.val = decide (1 ≤ (d.channel j).toNat))

/-- Lanes are independent: bit-plane j depends on dc[j] only (R71). -/
def Obligations.LanesAreIndependent : Prop :=
  ∀ (d d' : Duty) (n : Nat) (j : Fin 8), d.channel j = d'.channel j →
    (encodeWave d n).map (fun w => w.getLsbD j.val) = (encodeWave d' n).map (fun w => w.getLsbD j.val)

/-! ### The whole machine -/

/-- What the platform reset leaves: every element of R14 at its reset value, no bank byte written; and State.reset is
such a state (R126). That what stands outside PWM8 keeps its state is the model's choice (log 12). -/
def Obligations.ResetLeavesTheTablesValues : Prop :=
  ∀ s : State,
    agentStep .reset s = .next { s with
      devState := .unopened, phase := .idle, swapPending := false, activeSel := false, gate := false,
      overrun := false, result := .ok, lastOp := 0#4, stopReq := false, outUnknown := false, errCode := 0#32,
      faultKind := .ok, argPort := 0#32, argRate := 0#32, argCount := 0#32, argDc := Duty.zero, lCmd := 0#32,
      lPort := 0#32, lRate := 0#32, lCount := 0#32, lDc := Duty.zero, cfgPort := 0#32, cfgRate := 0#32,
      cfgN := 0#9, seqIdx := 0#8, out := 0x00#8, banks := [], bankEpoch := s.bankEpoch + 1 } ∧
    agentStep .reset State.reset = .next { State.reset with bankEpoch := 1 }

/-- The invariant holds at reset. -/
def Obligations.ResetMeetsTheInvariant : Prop :=
  MachineInv State.reset

/-- Every step of every agent keeps the invariant, from every state that meets it (R40 and what makes it inductive). -/
def Obligations.EveryStepKeepsTheInvariant : Prop :=
  ∀ s t : State, MachineInv s → step s = .next t → MachineInv t

/-- The invariant gives the six claims of R40. -/
def Obligations.InvariantGivesTheSpecsClaims : Prop :=
  ∀ s : State, MachineInv s → SpecInvariant s

/-- No cycle is torn: whatever the other agents do between the ticks, the bytes driven from index 0 on are, in order,
samples of ONE waveform; a cycle that reaches its wrap drives all N of them, and one that a fault or a reset cuts short
drives a beginning of it (R53). -/
def Obligations.CyclesAreNeverTorn : Prop :=
  ∀ (s : State) (l : List Agent), MachineInv s → s.gate = true → s.seqIdx = 0#8 →
    ∃ d : Duty, (cycleTrace l s).1 <+: encodeWave d s.cfgN.toNat ∧
      ((cycleTrace l s).2 = true → (cycleTrace l s).1 = encodeWave d s.cfgN.toNat)

/-- Under weak fairness, without reset and with a well-formed host program, every command in flight completes
(R109, R130). That fairness is turns given again and again is the model's reading of R130 (log 15), and that an agent
without an enabled step leaves the state on its turn is the model's choice (log 2). -/
def Obligations.EveryCommandCompletes : Prop :=
  ∀ (s : State) (sch : Nat → Agent), MachineInv s → ProgramWellFormed s → FairSchedule sch → NoReset sch →
    s.phase ≠ .idle → ∃ n t, runSchedule sch n s = .next t ∧ t.phase = .idle

/-- The configuration changes only at a successful OPEN, which writes all three from its latches, and at reset (R28). -/
def Obligations.ConfigurationChangesOnlyAtOpen : Prop :=
  ∀ (a : Agent) (s t : State), agentStep a s = .next t → a ≠ .reset →
    (t.cfgPort = s.cfgPort ∧ t.cfgRate = s.cfgRate ∧ t.cfgN = s.cfgN) ∨
    (a = .controller ∧ s.phase = .exec ∧ s.lCmd = 1#32 ∧ t.devState = .opened ∧ t.result = .ok ∧
      ConfigInForce t ∧ t.cfgPort = s.lPort ∧ t.cfgRate = s.lRate ∧ t.cfgN.toNat = s.lCount.toNat)

/-- The active bank changes only at a wrap with a swap pending, at START, which selects bank 0, and at reset (R33). -/
def Obligations.ActiveBankChangesOnlyAtAWrap : Prop :=
  ∀ (a : Agent) (s t : State), agentStep a s = .next t → a ≠ .reset → t.activeSel ≠ s.activeSel →
    (a = .sequencer ∧ s.gate = true ∧ s.seqIdx.toNat + 1 = s.cfgN.toNat ∧ s.swapPending = true ∧
      t.swapPending = false) ∨
    (a = .controller ∧ s.phase = .exec ∧ s.lCmd = 2#32 ∧ t.devState = .streaming ∧ t.activeSel = false)

/-- Only START opens the gate; only the stopping wrap, fault entry and reset close it (R35). -/
def Obligations.GateMovesOnlyAtStartStopAndFault : Prop :=
  ∀ (a : Agent) (s t : State), agentStep a s = .next t →
    (s.gate = false → t.gate = true →
      a = .controller ∧ s.phase = .exec ∧ s.lCmd = 2#32 ∧ s.devState = .opened ∧ t.devState = .streaming) ∧
    (s.gate = true → t.gate = false →
      a = .reset ∨
      (a = .sequencer ∧ s.seqIdx.toNat + 1 = s.cfgN.toNat ∧ s.swapPending = false ∧ s.stopReq = true) ∨
      (a = .controller ∧ s.devState ≠ .faulted ∧ t.devState = .faulted))

/-- While the gate is open no step but a reset writes the active bank (R53(a)). -/
def Obligations.ActiveBankIsNotWrittenWhileStreaming : Prop :=
  ∀ (a : Agent) (s t : State), MachineInv s → s.gate = true → agentStep a s = .next t → a ≠ .reset →
    ∀ i, i < 256 → readCell t.banks (bankAddr s.activeSel i) = readCell s.banks (bankAddr s.activeSel i)

/-- Only a tick writes OUT and clears OUT_UNKNOWN, without a reset; only a Device error sets OUT_UNKNOWN (R30, R37). -/
def Obligations.PortChangesOnlyAtATick : Prop :=
  ∀ (a : Agent) (s t : State), agentStep a s = .next t → a ≠ .reset →
    (t.out ≠ s.out → a = .sequencer ∧ s.gate = true) ∧
    (s.outUnknown = true → t.outUnknown = false → a = .sequencer ∧ s.gate = true) ∧
    (s.outUnknown = false → t.outUnknown = true →
      a = .controller ∧ t.result = .hardwareError ∧ deviceAnswer s = some t.errCode)

/-- OVERRUN is set only by a 4-byte write to CMD while busy, the descriptor first in the Host's program, and only a
reset clears it (R38, R83, R116). That the Host's accesses come from a program in State is the model's form (log 10). -/
def Obligations.OverrunIsStickyUntilReset : Prop :=
  ∀ (a : Agent) (s t : State), agentStep a s = .next t →
    (s.overrun = true → a ≠ .reset → t.overrun = true) ∧
    (s.overrun = false → t.overrun = true → a = .host ∧ s.phase ≠ .idle ∧
      ∃ (d : Descriptor) (rest : List HostOp) (v : Word),
        s.program = .access d :: rest ∧ decodeHostbus d = .ok (.wr .b4 0x00#8 v))

/-- ERR_CODE is written only at a Device error and FAULT_KIND only at a fault entry, without a reset (R21, R22, R116). -/
def Obligations.ErrorRecordsAreSticky : Prop :=
  ∀ (a : Agent) (s t : State), agentStep a s = .next t → a ≠ .reset →
    (t.errCode ≠ s.errCode → a = .controller ∧ t.result = .hardwareError ∧ deviceAnswer s = some t.errCode) ∧
    (t.faultKind ≠ s.faultKind → a = .controller ∧ t.devState = .faulted ∧ t.result = t.faultKind ∧
      (t.faultKind = .configurationError ∨ t.faultKind = .hardwareError))

/-- RESULT and LAST_OP are written only when a command in flight completes, which makes the Controller idle (R85). -/
def Obligations.ResultIsWrittenOnlyAtCompletion : Prop :=
  ∀ (a : Agent) (s t : State), agentStep a s = .next t → a ≠ .reset →
    ((t.result ≠ s.result ∨ t.lastOp ≠ s.lastOp) → a = .controller ∧ s.phase ≠ .idle ∧ t.phase = .idle) ∧
    (s.phase ≠ .idle → t.phase = .idle → a = .controller ∧ t.lastOp = s.lCmd.extractLsb' 0 4)
end

