-- ==== Sys2Proof/Laws/State.lean ====
section
/-! SUPPORT. One lemma per field per update, so that no later proof unfolds a record update. -/

namespace Sys2Proof.Machine

/-! ### `complete(r)` -/

@[simp] theorem complete_devState (r : ResultCode) (s : State) : (complete r s).devState = s.devState := rfl
@[simp] theorem complete_phase (r : ResultCode) (s : State) : (complete r s).phase = .idle := rfl
@[simp] theorem complete_swapPending (r : ResultCode) (s : State) : (complete r s).swapPending = s.swapPending := rfl
@[simp] theorem complete_activeSel (r : ResultCode) (s : State) : (complete r s).activeSel = s.activeSel := rfl
@[simp] theorem complete_gate (r : ResultCode) (s : State) : (complete r s).gate = s.gate := rfl
@[simp] theorem complete_overrun (r : ResultCode) (s : State) : (complete r s).overrun = s.overrun := rfl
@[simp] theorem complete_result (r : ResultCode) (s : State) : (complete r s).result = r := rfl
@[simp] theorem complete_lastOp (r : ResultCode) (s : State) : (complete r s).lastOp = opField s.lCmd := rfl
@[simp] theorem complete_stopReq (r : ResultCode) (s : State) : (complete r s).stopReq = s.stopReq := rfl
@[simp] theorem complete_outUnknown (r : ResultCode) (s : State) : (complete r s).outUnknown = s.outUnknown := rfl
@[simp] theorem complete_errCode (r : ResultCode) (s : State) : (complete r s).errCode = s.errCode := rfl
@[simp] theorem complete_faultKind (r : ResultCode) (s : State) : (complete r s).faultKind = s.faultKind := rfl
@[simp] theorem complete_argPort (r : ResultCode) (s : State) : (complete r s).argPort = s.argPort := rfl
@[simp] theorem complete_argRate (r : ResultCode) (s : State) : (complete r s).argRate = s.argRate := rfl
@[simp] theorem complete_argCount (r : ResultCode) (s : State) : (complete r s).argCount = s.argCount := rfl
@[simp] theorem complete_argDc (r : ResultCode) (s : State) : (complete r s).argDc = s.argDc := rfl
@[simp] theorem complete_lCmd (r : ResultCode) (s : State) : (complete r s).lCmd = s.lCmd := rfl
@[simp] theorem complete_lPort (r : ResultCode) (s : State) : (complete r s).lPort = s.lPort := rfl
@[simp] theorem complete_lRate (r : ResultCode) (s : State) : (complete r s).lRate = s.lRate := rfl
@[simp] theorem complete_lCount (r : ResultCode) (s : State) : (complete r s).lCount = s.lCount := rfl
@[simp] theorem complete_lDc (r : ResultCode) (s : State) : (complete r s).lDc = s.lDc := rfl
@[simp] theorem complete_cfgPort (r : ResultCode) (s : State) : (complete r s).cfgPort = s.cfgPort := rfl
@[simp] theorem complete_cfgRate (r : ResultCode) (s : State) : (complete r s).cfgRate = s.cfgRate := rfl
@[simp] theorem complete_cfgN (r : ResultCode) (s : State) : (complete r s).cfgN = s.cfgN := rfl
@[simp] theorem complete_seqIdx (r : ResultCode) (s : State) : (complete r s).seqIdx = s.seqIdx := rfl
@[simp] theorem complete_out (r : ResultCode) (s : State) : (complete r s).out = s.out := rfl
@[simp] theorem complete_banks (r : ResultCode) (s : State) : (complete r s).banks = s.banks := rfl
@[simp] theorem complete_bankEpoch (r : ResultCode) (s : State) : (complete r s).bankEpoch = s.bankEpoch := rfl
@[simp] theorem complete_platform (r : ResultCode) (s : State) : (complete r s).platform = s.platform := rfl
@[simp] theorem complete_bus (r : ResultCode) (s : State) : (complete r s).bus = s.bus := rfl
@[simp] theorem complete_program (r : ResultCode) (s : State) : (complete r s).program = s.program := rfl
@[simp] theorem complete_sched (r : ResultCode) (s : State) : (complete r s).sched = s.sched := rfl
@[simp] theorem complete_device (r : ResultCode) (s : State) : (complete r s).device = s.device := rfl
@[simp] theorem complete_lines (r : ResultCode) (s : State) : (complete r s).lines = s.lines := rfl
@[simp] theorem complete_outside (r : ResultCode) (s : State) : (complete r s).outside = s.outside := rfl

/-! ### `enter_faulted(kind, code)` -/

@[simp] theorem enterFaulted_devState (k : ResultCode) (c : Option Word) (s : State) : (enterFaulted k c s).devState = .faulted := rfl
@[simp] theorem enterFaulted_phase (k : ResultCode) (c : Option Word) (s : State) : (enterFaulted k c s).phase = s.phase := rfl
@[simp] theorem enterFaulted_swapPending (k : ResultCode) (c : Option Word) (s : State) : (enterFaulted k c s).swapPending = false := rfl
@[simp] theorem enterFaulted_activeSel (k : ResultCode) (c : Option Word) (s : State) : (enterFaulted k c s).activeSel = s.activeSel := rfl
@[simp] theorem enterFaulted_gate (k : ResultCode) (c : Option Word) (s : State) : (enterFaulted k c s).gate = false := rfl
@[simp] theorem enterFaulted_overrun (k : ResultCode) (c : Option Word) (s : State) : (enterFaulted k c s).overrun = s.overrun := rfl
@[simp] theorem enterFaulted_result (k : ResultCode) (c : Option Word) (s : State) : (enterFaulted k c s).result = s.result := rfl
@[simp] theorem enterFaulted_lastOp (k : ResultCode) (c : Option Word) (s : State) : (enterFaulted k c s).lastOp = s.lastOp := rfl
@[simp] theorem enterFaulted_stopReq (k : ResultCode) (c : Option Word) (s : State) : (enterFaulted k c s).stopReq = false := rfl
@[simp] theorem enterFaulted_outUnknown (k : ResultCode) (c : Option Word) (s : State) : (enterFaulted k c s).outUnknown = if k = .hardwareError then true else s.outUnknown := rfl
@[simp] theorem enterFaulted_errCode (k : ResultCode) (c : Option Word) (s : State) : (enterFaulted k c s).errCode = if k = .hardwareError then c.getD s.errCode else s.errCode := rfl
@[simp] theorem enterFaulted_faultKind (k : ResultCode) (c : Option Word) (s : State) : (enterFaulted k c s).faultKind = k := rfl
@[simp] theorem enterFaulted_argPort (k : ResultCode) (c : Option Word) (s : State) : (enterFaulted k c s).argPort = s.argPort := rfl
@[simp] theorem enterFaulted_argRate (k : ResultCode) (c : Option Word) (s : State) : (enterFaulted k c s).argRate = s.argRate := rfl
@[simp] theorem enterFaulted_argCount (k : ResultCode) (c : Option Word) (s : State) : (enterFaulted k c s).argCount = s.argCount := rfl
@[simp] theorem enterFaulted_argDc (k : ResultCode) (c : Option Word) (s : State) : (enterFaulted k c s).argDc = s.argDc := rfl
@[simp] theorem enterFaulted_lCmd (k : ResultCode) (c : Option Word) (s : State) : (enterFaulted k c s).lCmd = s.lCmd := rfl
@[simp] theorem enterFaulted_lPort (k : ResultCode) (c : Option Word) (s : State) : (enterFaulted k c s).lPort = s.lPort := rfl
@[simp] theorem enterFaulted_lRate (k : ResultCode) (c : Option Word) (s : State) : (enterFaulted k c s).lRate = s.lRate := rfl
@[simp] theorem enterFaulted_lCount (k : ResultCode) (c : Option Word) (s : State) : (enterFaulted k c s).lCount = s.lCount := rfl
@[simp] theorem enterFaulted_lDc (k : ResultCode) (c : Option Word) (s : State) : (enterFaulted k c s).lDc = s.lDc := rfl
@[simp] theorem enterFaulted_cfgPort (k : ResultCode) (c : Option Word) (s : State) : (enterFaulted k c s).cfgPort = s.cfgPort := rfl
@[simp] theorem enterFaulted_cfgRate (k : ResultCode) (c : Option Word) (s : State) : (enterFaulted k c s).cfgRate = s.cfgRate := rfl
@[simp] theorem enterFaulted_cfgN (k : ResultCode) (c : Option Word) (s : State) : (enterFaulted k c s).cfgN = s.cfgN := rfl
@[simp] theorem enterFaulted_seqIdx (k : ResultCode) (c : Option Word) (s : State) : (enterFaulted k c s).seqIdx = s.seqIdx := rfl
@[simp] theorem enterFaulted_out (k : ResultCode) (c : Option Word) (s : State) : (enterFaulted k c s).out = s.out := rfl
@[simp] theorem enterFaulted_banks (k : ResultCode) (c : Option Word) (s : State) : (enterFaulted k c s).banks = s.banks := rfl
@[simp] theorem enterFaulted_bankEpoch (k : ResultCode) (c : Option Word) (s : State) : (enterFaulted k c s).bankEpoch = s.bankEpoch := rfl
@[simp] theorem enterFaulted_platform (k : ResultCode) (c : Option Word) (s : State) : (enterFaulted k c s).platform = s.platform := rfl
@[simp] theorem enterFaulted_bus (k : ResultCode) (c : Option Word) (s : State) : (enterFaulted k c s).bus = s.bus := rfl
@[simp] theorem enterFaulted_program (k : ResultCode) (c : Option Word) (s : State) : (enterFaulted k c s).program = s.program := rfl
@[simp] theorem enterFaulted_sched (k : ResultCode) (c : Option Word) (s : State) : (enterFaulted k c s).sched = s.sched := rfl
@[simp] theorem enterFaulted_device (k : ResultCode) (c : Option Word) (s : State) : (enterFaulted k c s).device = s.device := rfl
@[simp] theorem enterFaulted_lines (k : ResultCode) (c : Option Word) (s : State) : (enterFaulted k c s).lines = s.lines := rfl
@[simp] theorem enterFaulted_outside (k : ResultCode) (c : Option Word) (s : State) : (enterFaulted k c s).outside = s.outside := rfl

/-! ### one consultation of the Device -/

@[simp] theorem consulted_devState (s : State) : (consulted s).devState = s.devState := rfl
@[simp] theorem consulted_phase (s : State) : (consulted s).phase = s.phase := rfl
@[simp] theorem consulted_swapPending (s : State) : (consulted s).swapPending = s.swapPending := rfl
@[simp] theorem consulted_activeSel (s : State) : (consulted s).activeSel = s.activeSel := rfl
@[simp] theorem consulted_gate (s : State) : (consulted s).gate = s.gate := rfl
@[simp] theorem consulted_overrun (s : State) : (consulted s).overrun = s.overrun := rfl
@[simp] theorem consulted_result (s : State) : (consulted s).result = s.result := rfl
@[simp] theorem consulted_lastOp (s : State) : (consulted s).lastOp = s.lastOp := rfl
@[simp] theorem consulted_stopReq (s : State) : (consulted s).stopReq = s.stopReq := rfl
@[simp] theorem consulted_outUnknown (s : State) : (consulted s).outUnknown = s.outUnknown := rfl
@[simp] theorem consulted_errCode (s : State) : (consulted s).errCode = s.errCode := rfl
@[simp] theorem consulted_faultKind (s : State) : (consulted s).faultKind = s.faultKind := rfl
@[simp] theorem consulted_argPort (s : State) : (consulted s).argPort = s.argPort := rfl
@[simp] theorem consulted_argRate (s : State) : (consulted s).argRate = s.argRate := rfl
@[simp] theorem consulted_argCount (s : State) : (consulted s).argCount = s.argCount := rfl
@[simp] theorem consulted_argDc (s : State) : (consulted s).argDc = s.argDc := rfl
@[simp] theorem consulted_lCmd (s : State) : (consulted s).lCmd = s.lCmd := rfl
@[simp] theorem consulted_lPort (s : State) : (consulted s).lPort = s.lPort := rfl
@[simp] theorem consulted_lRate (s : State) : (consulted s).lRate = s.lRate := rfl
@[simp] theorem consulted_lCount (s : State) : (consulted s).lCount = s.lCount := rfl
@[simp] theorem consulted_lDc (s : State) : (consulted s).lDc = s.lDc := rfl
@[simp] theorem consulted_cfgPort (s : State) : (consulted s).cfgPort = s.cfgPort := rfl
@[simp] theorem consulted_cfgRate (s : State) : (consulted s).cfgRate = s.cfgRate := rfl
@[simp] theorem consulted_cfgN (s : State) : (consulted s).cfgN = s.cfgN := rfl
@[simp] theorem consulted_seqIdx (s : State) : (consulted s).seqIdx = s.seqIdx := rfl
@[simp] theorem consulted_out (s : State) : (consulted s).out = s.out := rfl
@[simp] theorem consulted_banks (s : State) : (consulted s).banks = s.banks := rfl
@[simp] theorem consulted_bankEpoch (s : State) : (consulted s).bankEpoch = s.bankEpoch := rfl
@[simp] theorem consulted_platform (s : State) : (consulted s).platform = s.platform := rfl
@[simp] theorem consulted_bus (s : State) : (consulted s).bus = s.bus := rfl
@[simp] theorem consulted_program (s : State) : (consulted s).program = s.program := rfl
@[simp] theorem consulted_sched (s : State) : (consulted s).sched = s.sched := rfl
@[simp] theorem consulted_device (s : State) : (consulted s).device = s.device.advance := rfl
@[simp] theorem consulted_lines (s : State) : (consulted s).lines = s.lines := rfl
@[simp] theorem consulted_outside (s : State) : (consulted s).outside = s.outside := rfl

/-! ### a waveform written to a bank -/

@[simp] theorem writeWave_devState (b : Bool) (d : Duty) (s : State) : (writeWave b d s).devState = s.devState := rfl
@[simp] theorem writeWave_phase (b : Bool) (d : Duty) (s : State) : (writeWave b d s).phase = s.phase := rfl
@[simp] theorem writeWave_swapPending (b : Bool) (d : Duty) (s : State) : (writeWave b d s).swapPending = s.swapPending := rfl
@[simp] theorem writeWave_activeSel (b : Bool) (d : Duty) (s : State) : (writeWave b d s).activeSel = s.activeSel := rfl
@[simp] theorem writeWave_gate (b : Bool) (d : Duty) (s : State) : (writeWave b d s).gate = s.gate := rfl
@[simp] theorem writeWave_overrun (b : Bool) (d : Duty) (s : State) : (writeWave b d s).overrun = s.overrun := rfl
@[simp] theorem writeWave_result (b : Bool) (d : Duty) (s : State) : (writeWave b d s).result = s.result := rfl
@[simp] theorem writeWave_lastOp (b : Bool) (d : Duty) (s : State) : (writeWave b d s).lastOp = s.lastOp := rfl
@[simp] theorem writeWave_stopReq (b : Bool) (d : Duty) (s : State) : (writeWave b d s).stopReq = s.stopReq := rfl
@[simp] theorem writeWave_outUnknown (b : Bool) (d : Duty) (s : State) : (writeWave b d s).outUnknown = s.outUnknown := rfl
@[simp] theorem writeWave_errCode (b : Bool) (d : Duty) (s : State) : (writeWave b d s).errCode = s.errCode := rfl
@[simp] theorem writeWave_faultKind (b : Bool) (d : Duty) (s : State) : (writeWave b d s).faultKind = s.faultKind := rfl
@[simp] theorem writeWave_argPort (b : Bool) (d : Duty) (s : State) : (writeWave b d s).argPort = s.argPort := rfl
@[simp] theorem writeWave_argRate (b : Bool) (d : Duty) (s : State) : (writeWave b d s).argRate = s.argRate := rfl
@[simp] theorem writeWave_argCount (b : Bool) (d : Duty) (s : State) : (writeWave b d s).argCount = s.argCount := rfl
@[simp] theorem writeWave_argDc (b : Bool) (d : Duty) (s : State) : (writeWave b d s).argDc = s.argDc := rfl
@[simp] theorem writeWave_lCmd (b : Bool) (d : Duty) (s : State) : (writeWave b d s).lCmd = s.lCmd := rfl
@[simp] theorem writeWave_lPort (b : Bool) (d : Duty) (s : State) : (writeWave b d s).lPort = s.lPort := rfl
@[simp] theorem writeWave_lRate (b : Bool) (d : Duty) (s : State) : (writeWave b d s).lRate = s.lRate := rfl
@[simp] theorem writeWave_lCount (b : Bool) (d : Duty) (s : State) : (writeWave b d s).lCount = s.lCount := rfl
@[simp] theorem writeWave_lDc (b : Bool) (d : Duty) (s : State) : (writeWave b d s).lDc = s.lDc := rfl
@[simp] theorem writeWave_cfgPort (b : Bool) (d : Duty) (s : State) : (writeWave b d s).cfgPort = s.cfgPort := rfl
@[simp] theorem writeWave_cfgRate (b : Bool) (d : Duty) (s : State) : (writeWave b d s).cfgRate = s.cfgRate := rfl
@[simp] theorem writeWave_cfgN (b : Bool) (d : Duty) (s : State) : (writeWave b d s).cfgN = s.cfgN := rfl
@[simp] theorem writeWave_seqIdx (b : Bool) (d : Duty) (s : State) : (writeWave b d s).seqIdx = s.seqIdx := rfl
@[simp] theorem writeWave_out (b : Bool) (d : Duty) (s : State) : (writeWave b d s).out = s.out := rfl
@[simp] theorem writeWave_banks (b : Bool) (d : Duty) (s : State) : (writeWave b d s).banks = writeRun (bankAddr b 0) (encodeWave d s.cfgN.toNat) s.banks := rfl
@[simp] theorem writeWave_bankEpoch (b : Bool) (d : Duty) (s : State) : (writeWave b d s).bankEpoch = s.bankEpoch := rfl
@[simp] theorem writeWave_platform (b : Bool) (d : Duty) (s : State) : (writeWave b d s).platform = s.platform := rfl
@[simp] theorem writeWave_bus (b : Bool) (d : Duty) (s : State) : (writeWave b d s).bus = s.bus := rfl
@[simp] theorem writeWave_program (b : Bool) (d : Duty) (s : State) : (writeWave b d s).program = s.program := rfl
@[simp] theorem writeWave_sched (b : Bool) (d : Duty) (s : State) : (writeWave b d s).sched = s.sched := rfl
@[simp] theorem writeWave_device (b : Bool) (d : Duty) (s : State) : (writeWave b d s).device = s.device := rfl
@[simp] theorem writeWave_lines (b : Bool) (d : Duty) (s : State) : (writeWave b d s).lines = s.lines := rfl
@[simp] theorem writeWave_outside (b : Bool) (d : Duty) (s : State) : (writeWave b d s).outside = s.outside := rfl

/-! ### the response of an access -/

@[simp] theorem respond_devState (r : BusResponse) (s : State) : (respond r s).devState = s.devState := rfl
@[simp] theorem respond_phase (r : BusResponse) (s : State) : (respond r s).phase = s.phase := rfl
@[simp] theorem respond_swapPending (r : BusResponse) (s : State) : (respond r s).swapPending = s.swapPending := rfl
@[simp] theorem respond_activeSel (r : BusResponse) (s : State) : (respond r s).activeSel = s.activeSel := rfl
@[simp] theorem respond_gate (r : BusResponse) (s : State) : (respond r s).gate = s.gate := rfl
@[simp] theorem respond_overrun (r : BusResponse) (s : State) : (respond r s).overrun = s.overrun := rfl
@[simp] theorem respond_result (r : BusResponse) (s : State) : (respond r s).result = s.result := rfl
@[simp] theorem respond_lastOp (r : BusResponse) (s : State) : (respond r s).lastOp = s.lastOp := rfl
@[simp] theorem respond_stopReq (r : BusResponse) (s : State) : (respond r s).stopReq = s.stopReq := rfl
@[simp] theorem respond_outUnknown (r : BusResponse) (s : State) : (respond r s).outUnknown = s.outUnknown := rfl
@[simp] theorem respond_errCode (r : BusResponse) (s : State) : (respond r s).errCode = s.errCode := rfl
@[simp] theorem respond_faultKind (r : BusResponse) (s : State) : (respond r s).faultKind = s.faultKind := rfl
@[simp] theorem respond_argPort (r : BusResponse) (s : State) : (respond r s).argPort = s.argPort := rfl
@[simp] theorem respond_argRate (r : BusResponse) (s : State) : (respond r s).argRate = s.argRate := rfl
@[simp] theorem respond_argCount (r : BusResponse) (s : State) : (respond r s).argCount = s.argCount := rfl
@[simp] theorem respond_argDc (r : BusResponse) (s : State) : (respond r s).argDc = s.argDc := rfl
@[simp] theorem respond_lCmd (r : BusResponse) (s : State) : (respond r s).lCmd = s.lCmd := rfl
@[simp] theorem respond_lPort (r : BusResponse) (s : State) : (respond r s).lPort = s.lPort := rfl
@[simp] theorem respond_lRate (r : BusResponse) (s : State) : (respond r s).lRate = s.lRate := rfl
@[simp] theorem respond_lCount (r : BusResponse) (s : State) : (respond r s).lCount = s.lCount := rfl
@[simp] theorem respond_lDc (r : BusResponse) (s : State) : (respond r s).lDc = s.lDc := rfl
@[simp] theorem respond_cfgPort (r : BusResponse) (s : State) : (respond r s).cfgPort = s.cfgPort := rfl
@[simp] theorem respond_cfgRate (r : BusResponse) (s : State) : (respond r s).cfgRate = s.cfgRate := rfl
@[simp] theorem respond_cfgN (r : BusResponse) (s : State) : (respond r s).cfgN = s.cfgN := rfl
@[simp] theorem respond_seqIdx (r : BusResponse) (s : State) : (respond r s).seqIdx = s.seqIdx := rfl
@[simp] theorem respond_out (r : BusResponse) (s : State) : (respond r s).out = s.out := rfl
@[simp] theorem respond_banks (r : BusResponse) (s : State) : (respond r s).banks = s.banks := rfl
@[simp] theorem respond_bankEpoch (r : BusResponse) (s : State) : (respond r s).bankEpoch = s.bankEpoch := rfl
@[simp] theorem respond_platform (r : BusResponse) (s : State) : (respond r s).platform = s.platform := rfl
@[simp] theorem respond_bus (r : BusResponse) (s : State) : (respond r s).bus = r := rfl
@[simp] theorem respond_program (r : BusResponse) (s : State) : (respond r s).program = s.program := rfl
@[simp] theorem respond_sched (r : BusResponse) (s : State) : (respond r s).sched = s.sched := rfl
@[simp] theorem respond_device (r : BusResponse) (s : State) : (respond r s).device = s.device := rfl
@[simp] theorem respond_lines (r : BusResponse) (s : State) : (respond r s).lines = s.lines := rfl
@[simp] theorem respond_outside (r : BusResponse) (s : State) : (respond r s).outside = s.outside := rfl

/-! ### an accepted command -/

@[simp] theorem accept_devState (v : Word) (s : State) : (accept v s).devState = s.devState := rfl
@[simp] theorem accept_phase (v : Word) (s : State) : (accept v s).phase = .exec := rfl
@[simp] theorem accept_swapPending (v : Word) (s : State) : (accept v s).swapPending = s.swapPending := rfl
@[simp] theorem accept_activeSel (v : Word) (s : State) : (accept v s).activeSel = s.activeSel := rfl
@[simp] theorem accept_gate (v : Word) (s : State) : (accept v s).gate = s.gate := rfl
@[simp] theorem accept_overrun (v : Word) (s : State) : (accept v s).overrun = s.overrun := rfl
@[simp] theorem accept_result (v : Word) (s : State) : (accept v s).result = s.result := rfl
@[simp] theorem accept_lastOp (v : Word) (s : State) : (accept v s).lastOp = s.lastOp := rfl
@[simp] theorem accept_stopReq (v : Word) (s : State) : (accept v s).stopReq = s.stopReq := rfl
@[simp] theorem accept_outUnknown (v : Word) (s : State) : (accept v s).outUnknown = s.outUnknown := rfl
@[simp] theorem accept_errCode (v : Word) (s : State) : (accept v s).errCode = s.errCode := rfl
@[simp] theorem accept_faultKind (v : Word) (s : State) : (accept v s).faultKind = s.faultKind := rfl
@[simp] theorem accept_argPort (v : Word) (s : State) : (accept v s).argPort = s.argPort := rfl
@[simp] theorem accept_argRate (v : Word) (s : State) : (accept v s).argRate = s.argRate := rfl
@[simp] theorem accept_argCount (v : Word) (s : State) : (accept v s).argCount = s.argCount := rfl
@[simp] theorem accept_argDc (v : Word) (s : State) : (accept v s).argDc = s.argDc := rfl
@[simp] theorem accept_lCmd (v : Word) (s : State) : (accept v s).lCmd = v := rfl
@[simp] theorem accept_lPort (v : Word) (s : State) : (accept v s).lPort = s.argPort := rfl
@[simp] theorem accept_lRate (v : Word) (s : State) : (accept v s).lRate = s.argRate := rfl
@[simp] theorem accept_lCount (v : Word) (s : State) : (accept v s).lCount = s.argCount := rfl
@[simp] theorem accept_lDc (v : Word) (s : State) : (accept v s).lDc = s.argDc := rfl
@[simp] theorem accept_cfgPort (v : Word) (s : State) : (accept v s).cfgPort = s.cfgPort := rfl
@[simp] theorem accept_cfgRate (v : Word) (s : State) : (accept v s).cfgRate = s.cfgRate := rfl
@[simp] theorem accept_cfgN (v : Word) (s : State) : (accept v s).cfgN = s.cfgN := rfl
@[simp] theorem accept_seqIdx (v : Word) (s : State) : (accept v s).seqIdx = s.seqIdx := rfl
@[simp] theorem accept_out (v : Word) (s : State) : (accept v s).out = s.out := rfl
@[simp] theorem accept_banks (v : Word) (s : State) : (accept v s).banks = s.banks := rfl
@[simp] theorem accept_bankEpoch (v : Word) (s : State) : (accept v s).bankEpoch = s.bankEpoch := rfl
@[simp] theorem accept_platform (v : Word) (s : State) : (accept v s).platform = s.platform := rfl
@[simp] theorem accept_bus (v : Word) (s : State) : (accept v s).bus = s.bus := rfl
@[simp] theorem accept_program (v : Word) (s : State) : (accept v s).program = s.program := rfl
@[simp] theorem accept_sched (v : Word) (s : State) : (accept v s).sched = s.sched := rfl
@[simp] theorem accept_device (v : Word) (s : State) : (accept v s).device = s.device := rfl
@[simp] theorem accept_lines (v : Word) (s : State) : (accept v s).lines = s.lines := rfl
@[simp] theorem accept_outside (v : Word) (s : State) : (accept v s).outside = s.outside := rfl

/-! ### the configuration of OPEN -/

@[simp] theorem configure_devState (s : State) : (configure s).devState = .opened := rfl
@[simp] theorem configure_phase (s : State) : (configure s).phase = s.phase := rfl
@[simp] theorem configure_swapPending (s : State) : (configure s).swapPending = s.swapPending := rfl
@[simp] theorem configure_activeSel (s : State) : (configure s).activeSel = s.activeSel := rfl
@[simp] theorem configure_gate (s : State) : (configure s).gate = s.gate := rfl
@[simp] theorem configure_overrun (s : State) : (configure s).overrun = s.overrun := rfl
@[simp] theorem configure_result (s : State) : (configure s).result = s.result := rfl
@[simp] theorem configure_lastOp (s : State) : (configure s).lastOp = s.lastOp := rfl
@[simp] theorem configure_stopReq (s : State) : (configure s).stopReq = s.stopReq := rfl
@[simp] theorem configure_outUnknown (s : State) : (configure s).outUnknown = s.outUnknown := rfl
@[simp] theorem configure_errCode (s : State) : (configure s).errCode = s.errCode := rfl
@[simp] theorem configure_faultKind (s : State) : (configure s).faultKind = s.faultKind := rfl
@[simp] theorem configure_argPort (s : State) : (configure s).argPort = s.argPort := rfl
@[simp] theorem configure_argRate (s : State) : (configure s).argRate = s.argRate := rfl
@[simp] theorem configure_argCount (s : State) : (configure s).argCount = s.argCount := rfl
@[simp] theorem configure_argDc (s : State) : (configure s).argDc = s.argDc := rfl
@[simp] theorem configure_lCmd (s : State) : (configure s).lCmd = s.lCmd := rfl
@[simp] theorem configure_lPort (s : State) : (configure s).lPort = s.lPort := rfl
@[simp] theorem configure_lRate (s : State) : (configure s).lRate = s.lRate := rfl
@[simp] theorem configure_lCount (s : State) : (configure s).lCount = s.lCount := rfl
@[simp] theorem configure_lDc (s : State) : (configure s).lDc = s.lDc := rfl
@[simp] theorem configure_cfgPort (s : State) : (configure s).cfgPort = s.lPort := rfl
@[simp] theorem configure_cfgRate (s : State) : (configure s).cfgRate = s.lRate := rfl
@[simp] theorem configure_cfgN (s : State) : (configure s).cfgN = s.lCount.setWidth 9 := rfl
@[simp] theorem configure_seqIdx (s : State) : (configure s).seqIdx = s.seqIdx := rfl
@[simp] theorem configure_out (s : State) : (configure s).out = s.out := rfl
@[simp] theorem configure_banks (s : State) : (configure s).banks = s.banks := rfl
@[simp] theorem configure_bankEpoch (s : State) : (configure s).bankEpoch = s.bankEpoch := rfl
@[simp] theorem configure_platform (s : State) : (configure s).platform = s.platform := rfl
@[simp] theorem configure_bus (s : State) : (configure s).bus = s.bus := rfl
@[simp] theorem configure_program (s : State) : (configure s).program = s.program := rfl
@[simp] theorem configure_sched (s : State) : (configure s).sched = s.sched := rfl
@[simp] theorem configure_device (s : State) : (configure s).device = s.device := rfl
@[simp] theorem configure_lines (s : State) : (configure s).lines = s.lines := rfl
@[simp] theorem configure_outside (s : State) : (configure s).outside = s.outside := rfl

/-! ### the start of the stream -/

@[simp] theorem beginStream_devState (s : State) : (beginStream s).devState = .streaming := rfl
@[simp] theorem beginStream_phase (s : State) : (beginStream s).phase = s.phase := rfl
@[simp] theorem beginStream_swapPending (s : State) : (beginStream s).swapPending = false := rfl
@[simp] theorem beginStream_activeSel (s : State) : (beginStream s).activeSel = false := rfl
@[simp] theorem beginStream_gate (s : State) : (beginStream s).gate = true := rfl
@[simp] theorem beginStream_overrun (s : State) : (beginStream s).overrun = s.overrun := rfl
@[simp] theorem beginStream_result (s : State) : (beginStream s).result = s.result := rfl
@[simp] theorem beginStream_lastOp (s : State) : (beginStream s).lastOp = s.lastOp := rfl
@[simp] theorem beginStream_stopReq (s : State) : (beginStream s).stopReq = false := rfl
@[simp] theorem beginStream_outUnknown (s : State) : (beginStream s).outUnknown = s.outUnknown := rfl
@[simp] theorem beginStream_errCode (s : State) : (beginStream s).errCode = s.errCode := rfl
@[simp] theorem beginStream_faultKind (s : State) : (beginStream s).faultKind = s.faultKind := rfl
@[simp] theorem beginStream_argPort (s : State) : (beginStream s).argPort = s.argPort := rfl
@[simp] theorem beginStream_argRate (s : State) : (beginStream s).argRate = s.argRate := rfl
@[simp] theorem beginStream_argCount (s : State) : (beginStream s).argCount = s.argCount := rfl
@[simp] theorem beginStream_argDc (s : State) : (beginStream s).argDc = s.argDc := rfl
@[simp] theorem beginStream_lCmd (s : State) : (beginStream s).lCmd = s.lCmd := rfl
@[simp] theorem beginStream_lPort (s : State) : (beginStream s).lPort = s.lPort := rfl
@[simp] theorem beginStream_lRate (s : State) : (beginStream s).lRate = s.lRate := rfl
@[simp] theorem beginStream_lCount (s : State) : (beginStream s).lCount = s.lCount := rfl
@[simp] theorem beginStream_lDc (s : State) : (beginStream s).lDc = s.lDc := rfl
@[simp] theorem beginStream_cfgPort (s : State) : (beginStream s).cfgPort = s.cfgPort := rfl
@[simp] theorem beginStream_cfgRate (s : State) : (beginStream s).cfgRate = s.cfgRate := rfl
@[simp] theorem beginStream_cfgN (s : State) : (beginStream s).cfgN = s.cfgN := rfl
@[simp] theorem beginStream_seqIdx (s : State) : (beginStream s).seqIdx = 0#8 := rfl
@[simp] theorem beginStream_out (s : State) : (beginStream s).out = s.out := rfl
@[simp] theorem beginStream_banks (s : State) : (beginStream s).banks = s.banks := rfl
@[simp] theorem beginStream_bankEpoch (s : State) : (beginStream s).bankEpoch = s.bankEpoch := rfl
@[simp] theorem beginStream_platform (s : State) : (beginStream s).platform = s.platform := rfl
@[simp] theorem beginStream_bus (s : State) : (beginStream s).bus = s.bus := rfl
@[simp] theorem beginStream_program (s : State) : (beginStream s).program = s.program := rfl
@[simp] theorem beginStream_sched (s : State) : (beginStream s).sched = s.sched := rfl
@[simp] theorem beginStream_device (s : State) : (beginStream s).device = s.device := rfl
@[simp] theorem beginStream_lines (s : State) : (beginStream s).lines = s.lines := rfl
@[simp] theorem beginStream_outside (s : State) : (beginStream s).outside = s.outside := rfl

/-! ### UPDATE's wait -/

@[simp] theorem awaitSwap_devState (s : State) : (awaitSwap s).devState = s.devState := rfl
@[simp] theorem awaitSwap_phase (s : State) : (awaitSwap s).phase = .waitSwap := rfl
@[simp] theorem awaitSwap_swapPending (s : State) : (awaitSwap s).swapPending = true := rfl
@[simp] theorem awaitSwap_activeSel (s : State) : (awaitSwap s).activeSel = s.activeSel := rfl
@[simp] theorem awaitSwap_gate (s : State) : (awaitSwap s).gate = s.gate := rfl
@[simp] theorem awaitSwap_overrun (s : State) : (awaitSwap s).overrun = s.overrun := rfl
@[simp] theorem awaitSwap_result (s : State) : (awaitSwap s).result = s.result := rfl
@[simp] theorem awaitSwap_lastOp (s : State) : (awaitSwap s).lastOp = s.lastOp := rfl
@[simp] theorem awaitSwap_stopReq (s : State) : (awaitSwap s).stopReq = s.stopReq := rfl
@[simp] theorem awaitSwap_outUnknown (s : State) : (awaitSwap s).outUnknown = s.outUnknown := rfl
@[simp] theorem awaitSwap_errCode (s : State) : (awaitSwap s).errCode = s.errCode := rfl
@[simp] theorem awaitSwap_faultKind (s : State) : (awaitSwap s).faultKind = s.faultKind := rfl
@[simp] theorem awaitSwap_argPort (s : State) : (awaitSwap s).argPort = s.argPort := rfl
@[simp] theorem awaitSwap_argRate (s : State) : (awaitSwap s).argRate = s.argRate := rfl
@[simp] theorem awaitSwap_argCount (s : State) : (awaitSwap s).argCount = s.argCount := rfl
@[simp] theorem awaitSwap_argDc (s : State) : (awaitSwap s).argDc = s.argDc := rfl
@[simp] theorem awaitSwap_lCmd (s : State) : (awaitSwap s).lCmd = s.lCmd := rfl
@[simp] theorem awaitSwap_lPort (s : State) : (awaitSwap s).lPort = s.lPort := rfl
@[simp] theorem awaitSwap_lRate (s : State) : (awaitSwap s).lRate = s.lRate := rfl
@[simp] theorem awaitSwap_lCount (s : State) : (awaitSwap s).lCount = s.lCount := rfl
@[simp] theorem awaitSwap_lDc (s : State) : (awaitSwap s).lDc = s.lDc := rfl
@[simp] theorem awaitSwap_cfgPort (s : State) : (awaitSwap s).cfgPort = s.cfgPort := rfl
@[simp] theorem awaitSwap_cfgRate (s : State) : (awaitSwap s).cfgRate = s.cfgRate := rfl
@[simp] theorem awaitSwap_cfgN (s : State) : (awaitSwap s).cfgN = s.cfgN := rfl
@[simp] theorem awaitSwap_seqIdx (s : State) : (awaitSwap s).seqIdx = s.seqIdx := rfl
@[simp] theorem awaitSwap_out (s : State) : (awaitSwap s).out = s.out := rfl
@[simp] theorem awaitSwap_banks (s : State) : (awaitSwap s).banks = s.banks := rfl
@[simp] theorem awaitSwap_bankEpoch (s : State) : (awaitSwap s).bankEpoch = s.bankEpoch := rfl
@[simp] theorem awaitSwap_platform (s : State) : (awaitSwap s).platform = s.platform := rfl
@[simp] theorem awaitSwap_bus (s : State) : (awaitSwap s).bus = s.bus := rfl
@[simp] theorem awaitSwap_program (s : State) : (awaitSwap s).program = s.program := rfl
@[simp] theorem awaitSwap_sched (s : State) : (awaitSwap s).sched = s.sched := rfl
@[simp] theorem awaitSwap_device (s : State) : (awaitSwap s).device = s.device := rfl
@[simp] theorem awaitSwap_lines (s : State) : (awaitSwap s).lines = s.lines := rfl
@[simp] theorem awaitSwap_outside (s : State) : (awaitSwap s).outside = s.outside := rfl

/-! ### CLOSE's wait -/

@[simp] theorem awaitStop_devState (s : State) : (awaitStop s).devState = s.devState := rfl
@[simp] theorem awaitStop_phase (s : State) : (awaitStop s).phase = .waitStop := rfl
@[simp] theorem awaitStop_swapPending (s : State) : (awaitStop s).swapPending = true := rfl
@[simp] theorem awaitStop_activeSel (s : State) : (awaitStop s).activeSel = s.activeSel := rfl
@[simp] theorem awaitStop_gate (s : State) : (awaitStop s).gate = s.gate := rfl
@[simp] theorem awaitStop_overrun (s : State) : (awaitStop s).overrun = s.overrun := rfl
@[simp] theorem awaitStop_result (s : State) : (awaitStop s).result = s.result := rfl
@[simp] theorem awaitStop_lastOp (s : State) : (awaitStop s).lastOp = s.lastOp := rfl
@[simp] theorem awaitStop_stopReq (s : State) : (awaitStop s).stopReq = true := rfl
@[simp] theorem awaitStop_outUnknown (s : State) : (awaitStop s).outUnknown = s.outUnknown := rfl
@[simp] theorem awaitStop_errCode (s : State) : (awaitStop s).errCode = s.errCode := rfl
@[simp] theorem awaitStop_faultKind (s : State) : (awaitStop s).faultKind = s.faultKind := rfl
@[simp] theorem awaitStop_argPort (s : State) : (awaitStop s).argPort = s.argPort := rfl
@[simp] theorem awaitStop_argRate (s : State) : (awaitStop s).argRate = s.argRate := rfl
@[simp] theorem awaitStop_argCount (s : State) : (awaitStop s).argCount = s.argCount := rfl
@[simp] theorem awaitStop_argDc (s : State) : (awaitStop s).argDc = s.argDc := rfl
@[simp] theorem awaitStop_lCmd (s : State) : (awaitStop s).lCmd = s.lCmd := rfl
@[simp] theorem awaitStop_lPort (s : State) : (awaitStop s).lPort = s.lPort := rfl
@[simp] theorem awaitStop_lRate (s : State) : (awaitStop s).lRate = s.lRate := rfl
@[simp] theorem awaitStop_lCount (s : State) : (awaitStop s).lCount = s.lCount := rfl
@[simp] theorem awaitStop_lDc (s : State) : (awaitStop s).lDc = s.lDc := rfl
@[simp] theorem awaitStop_cfgPort (s : State) : (awaitStop s).cfgPort = s.cfgPort := rfl
@[simp] theorem awaitStop_cfgRate (s : State) : (awaitStop s).cfgRate = s.cfgRate := rfl
@[simp] theorem awaitStop_cfgN (s : State) : (awaitStop s).cfgN = s.cfgN := rfl
@[simp] theorem awaitStop_seqIdx (s : State) : (awaitStop s).seqIdx = s.seqIdx := rfl
@[simp] theorem awaitStop_out (s : State) : (awaitStop s).out = s.out := rfl
@[simp] theorem awaitStop_banks (s : State) : (awaitStop s).banks = s.banks := rfl
@[simp] theorem awaitStop_bankEpoch (s : State) : (awaitStop s).bankEpoch = s.bankEpoch := rfl
@[simp] theorem awaitStop_platform (s : State) : (awaitStop s).platform = s.platform := rfl
@[simp] theorem awaitStop_bus (s : State) : (awaitStop s).bus = s.bus := rfl
@[simp] theorem awaitStop_program (s : State) : (awaitStop s).program = s.program := rfl
@[simp] theorem awaitStop_sched (s : State) : (awaitStop s).sched = s.sched := rfl
@[simp] theorem awaitStop_device (s : State) : (awaitStop s).device = s.device := rfl
@[simp] theorem awaitStop_lines (s : State) : (awaitStop s).lines = s.lines := rfl
@[simp] theorem awaitStop_outside (s : State) : (awaitStop s).outside = s.outside := rfl

/-! ### the device Closed -/

@[simp] theorem closeDevice_devState (s : State) : (closeDevice s).devState = .closed := rfl
@[simp] theorem closeDevice_phase (s : State) : (closeDevice s).phase = s.phase := rfl
@[simp] theorem closeDevice_swapPending (s : State) : (closeDevice s).swapPending = s.swapPending := rfl
@[simp] theorem closeDevice_activeSel (s : State) : (closeDevice s).activeSel = s.activeSel := rfl
@[simp] theorem closeDevice_gate (s : State) : (closeDevice s).gate = s.gate := rfl
@[simp] theorem closeDevice_overrun (s : State) : (closeDevice s).overrun = s.overrun := rfl
@[simp] theorem closeDevice_result (s : State) : (closeDevice s).result = s.result := rfl
@[simp] theorem closeDevice_lastOp (s : State) : (closeDevice s).lastOp = s.lastOp := rfl
@[simp] theorem closeDevice_stopReq (s : State) : (closeDevice s).stopReq = s.stopReq := rfl
@[simp] theorem closeDevice_outUnknown (s : State) : (closeDevice s).outUnknown = s.outUnknown := rfl
@[simp] theorem closeDevice_errCode (s : State) : (closeDevice s).errCode = s.errCode := rfl
@[simp] theorem closeDevice_faultKind (s : State) : (closeDevice s).faultKind = s.faultKind := rfl
@[simp] theorem closeDevice_argPort (s : State) : (closeDevice s).argPort = s.argPort := rfl
@[simp] theorem closeDevice_argRate (s : State) : (closeDevice s).argRate = s.argRate := rfl
@[simp] theorem closeDevice_argCount (s : State) : (closeDevice s).argCount = s.argCount := rfl
@[simp] theorem closeDevice_argDc (s : State) : (closeDevice s).argDc = s.argDc := rfl
@[simp] theorem closeDevice_lCmd (s : State) : (closeDevice s).lCmd = s.lCmd := rfl
@[simp] theorem closeDevice_lPort (s : State) : (closeDevice s).lPort = s.lPort := rfl
@[simp] theorem closeDevice_lRate (s : State) : (closeDevice s).lRate = s.lRate := rfl
@[simp] theorem closeDevice_lCount (s : State) : (closeDevice s).lCount = s.lCount := rfl
@[simp] theorem closeDevice_lDc (s : State) : (closeDevice s).lDc = s.lDc := rfl
@[simp] theorem closeDevice_cfgPort (s : State) : (closeDevice s).cfgPort = s.cfgPort := rfl
@[simp] theorem closeDevice_cfgRate (s : State) : (closeDevice s).cfgRate = s.cfgRate := rfl
@[simp] theorem closeDevice_cfgN (s : State) : (closeDevice s).cfgN = s.cfgN := rfl
@[simp] theorem closeDevice_seqIdx (s : State) : (closeDevice s).seqIdx = s.seqIdx := rfl
@[simp] theorem closeDevice_out (s : State) : (closeDevice s).out = s.out := rfl
@[simp] theorem closeDevice_banks (s : State) : (closeDevice s).banks = s.banks := rfl
@[simp] theorem closeDevice_bankEpoch (s : State) : (closeDevice s).bankEpoch = s.bankEpoch := rfl
@[simp] theorem closeDevice_platform (s : State) : (closeDevice s).platform = s.platform := rfl
@[simp] theorem closeDevice_bus (s : State) : (closeDevice s).bus = s.bus := rfl
@[simp] theorem closeDevice_program (s : State) : (closeDevice s).program = s.program := rfl
@[simp] theorem closeDevice_sched (s : State) : (closeDevice s).sched = s.sched := rfl
@[simp] theorem closeDevice_device (s : State) : (closeDevice s).device = s.device := rfl
@[simp] theorem closeDevice_lines (s : State) : (closeDevice s).lines = s.lines := rfl
@[simp] theorem closeDevice_outside (s : State) : (closeDevice s).outside = s.outside := rfl

/-! ### a Device error of CLOSE -/

@[simp] theorem recordError_devState (c : Word) (s : State) : (recordError c s).devState = s.devState := rfl
@[simp] theorem recordError_phase (c : Word) (s : State) : (recordError c s).phase = s.phase := rfl
@[simp] theorem recordError_swapPending (c : Word) (s : State) : (recordError c s).swapPending = s.swapPending := rfl
@[simp] theorem recordError_activeSel (c : Word) (s : State) : (recordError c s).activeSel = s.activeSel := rfl
@[simp] theorem recordError_gate (c : Word) (s : State) : (recordError c s).gate = s.gate := rfl
@[simp] theorem recordError_overrun (c : Word) (s : State) : (recordError c s).overrun = s.overrun := rfl
@[simp] theorem recordError_result (c : Word) (s : State) : (recordError c s).result = s.result := rfl
@[simp] theorem recordError_lastOp (c : Word) (s : State) : (recordError c s).lastOp = s.lastOp := rfl
@[simp] theorem recordError_stopReq (c : Word) (s : State) : (recordError c s).stopReq = s.stopReq := rfl
@[simp] theorem recordError_outUnknown (c : Word) (s : State) : (recordError c s).outUnknown = true := rfl
@[simp] theorem recordError_errCode (c : Word) (s : State) : (recordError c s).errCode = c := rfl
@[simp] theorem recordError_faultKind (c : Word) (s : State) : (recordError c s).faultKind = s.faultKind := rfl
@[simp] theorem recordError_argPort (c : Word) (s : State) : (recordError c s).argPort = s.argPort := rfl
@[simp] theorem recordError_argRate (c : Word) (s : State) : (recordError c s).argRate = s.argRate := rfl
@[simp] theorem recordError_argCount (c : Word) (s : State) : (recordError c s).argCount = s.argCount := rfl
@[simp] theorem recordError_argDc (c : Word) (s : State) : (recordError c s).argDc = s.argDc := rfl
@[simp] theorem recordError_lCmd (c : Word) (s : State) : (recordError c s).lCmd = s.lCmd := rfl
@[simp] theorem recordError_lPort (c : Word) (s : State) : (recordError c s).lPort = s.lPort := rfl
@[simp] theorem recordError_lRate (c : Word) (s : State) : (recordError c s).lRate = s.lRate := rfl
@[simp] theorem recordError_lCount (c : Word) (s : State) : (recordError c s).lCount = s.lCount := rfl
@[simp] theorem recordError_lDc (c : Word) (s : State) : (recordError c s).lDc = s.lDc := rfl
@[simp] theorem recordError_cfgPort (c : Word) (s : State) : (recordError c s).cfgPort = s.cfgPort := rfl
@[simp] theorem recordError_cfgRate (c : Word) (s : State) : (recordError c s).cfgRate = s.cfgRate := rfl
@[simp] theorem recordError_cfgN (c : Word) (s : State) : (recordError c s).cfgN = s.cfgN := rfl
@[simp] theorem recordError_seqIdx (c : Word) (s : State) : (recordError c s).seqIdx = s.seqIdx := rfl
@[simp] theorem recordError_out (c : Word) (s : State) : (recordError c s).out = s.out := rfl
@[simp] theorem recordError_banks (c : Word) (s : State) : (recordError c s).banks = s.banks := rfl
@[simp] theorem recordError_bankEpoch (c : Word) (s : State) : (recordError c s).bankEpoch = s.bankEpoch := rfl
@[simp] theorem recordError_platform (c : Word) (s : State) : (recordError c s).platform = s.platform := rfl
@[simp] theorem recordError_bus (c : Word) (s : State) : (recordError c s).bus = s.bus := rfl
@[simp] theorem recordError_program (c : Word) (s : State) : (recordError c s).program = s.program := rfl
@[simp] theorem recordError_sched (c : Word) (s : State) : (recordError c s).sched = s.sched := rfl
@[simp] theorem recordError_device (c : Word) (s : State) : (recordError c s).device = s.device := rfl
@[simp] theorem recordError_lines (c : Word) (s : State) : (recordError c s).lines = s.lines := rfl
@[simp] theorem recordError_outside (c : Word) (s : State) : (recordError c s).outside = s.outside := rfl

/-! ### a Device error of OPEN, START or UPDATE -/

@[simp] theorem failHardware_devState (c : Word) (s : State) : (failHardware c s).devState = .faulted := rfl
@[simp] theorem failHardware_phase (c : Word) (s : State) : (failHardware c s).phase = .idle := rfl
@[simp] theorem failHardware_swapPending (c : Word) (s : State) : (failHardware c s).swapPending = false := rfl
@[simp] theorem failHardware_activeSel (c : Word) (s : State) : (failHardware c s).activeSel = s.activeSel := rfl
@[simp] theorem failHardware_gate (c : Word) (s : State) : (failHardware c s).gate = false := rfl
@[simp] theorem failHardware_overrun (c : Word) (s : State) : (failHardware c s).overrun = s.overrun := rfl
@[simp] theorem failHardware_result (c : Word) (s : State) : (failHardware c s).result = .hardwareError := rfl
@[simp] theorem failHardware_lastOp (c : Word) (s : State) : (failHardware c s).lastOp = opField s.lCmd := rfl
@[simp] theorem failHardware_stopReq (c : Word) (s : State) : (failHardware c s).stopReq = false := rfl
@[simp] theorem failHardware_outUnknown (c : Word) (s : State) : (failHardware c s).outUnknown = true := rfl
@[simp] theorem failHardware_errCode (c : Word) (s : State) : (failHardware c s).errCode = c := rfl
@[simp] theorem failHardware_faultKind (c : Word) (s : State) : (failHardware c s).faultKind = .hardwareError := rfl
@[simp] theorem failHardware_argPort (c : Word) (s : State) : (failHardware c s).argPort = s.argPort := rfl
@[simp] theorem failHardware_argRate (c : Word) (s : State) : (failHardware c s).argRate = s.argRate := rfl
@[simp] theorem failHardware_argCount (c : Word) (s : State) : (failHardware c s).argCount = s.argCount := rfl
@[simp] theorem failHardware_argDc (c : Word) (s : State) : (failHardware c s).argDc = s.argDc := rfl
@[simp] theorem failHardware_lCmd (c : Word) (s : State) : (failHardware c s).lCmd = s.lCmd := rfl
@[simp] theorem failHardware_lPort (c : Word) (s : State) : (failHardware c s).lPort = s.lPort := rfl
@[simp] theorem failHardware_lRate (c : Word) (s : State) : (failHardware c s).lRate = s.lRate := rfl
@[simp] theorem failHardware_lCount (c : Word) (s : State) : (failHardware c s).lCount = s.lCount := rfl
@[simp] theorem failHardware_lDc (c : Word) (s : State) : (failHardware c s).lDc = s.lDc := rfl
@[simp] theorem failHardware_cfgPort (c : Word) (s : State) : (failHardware c s).cfgPort = s.cfgPort := rfl
@[simp] theorem failHardware_cfgRate (c : Word) (s : State) : (failHardware c s).cfgRate = s.cfgRate := rfl
@[simp] theorem failHardware_cfgN (c : Word) (s : State) : (failHardware c s).cfgN = s.cfgN := rfl
@[simp] theorem failHardware_seqIdx (c : Word) (s : State) : (failHardware c s).seqIdx = s.seqIdx := rfl
@[simp] theorem failHardware_out (c : Word) (s : State) : (failHardware c s).out = s.out := rfl
@[simp] theorem failHardware_banks (c : Word) (s : State) : (failHardware c s).banks = s.banks := rfl
@[simp] theorem failHardware_bankEpoch (c : Word) (s : State) : (failHardware c s).bankEpoch = s.bankEpoch := rfl
@[simp] theorem failHardware_platform (c : Word) (s : State) : (failHardware c s).platform = s.platform := rfl
@[simp] theorem failHardware_bus (c : Word) (s : State) : (failHardware c s).bus = s.bus := rfl
@[simp] theorem failHardware_program (c : Word) (s : State) : (failHardware c s).program = s.program := rfl
@[simp] theorem failHardware_sched (c : Word) (s : State) : (failHardware c s).sched = s.sched := rfl
@[simp] theorem failHardware_device (c : Word) (s : State) : (failHardware c s).device = s.device := rfl
@[simp] theorem failHardware_lines (c : Word) (s : State) : (failHardware c s).lines = s.lines := rfl
@[simp] theorem failHardware_outside (c : Word) (s : State) : (failHardware c s).outside = s.outside := rfl

/-! ### one operation fetched -/

@[simp] theorem afterFetch_devState (l : List HostOp) (s : State) : (afterFetch l s).devState = s.devState := rfl
@[simp] theorem afterFetch_phase (l : List HostOp) (s : State) : (afterFetch l s).phase = s.phase := rfl
@[simp] theorem afterFetch_swapPending (l : List HostOp) (s : State) : (afterFetch l s).swapPending = s.swapPending := rfl
@[simp] theorem afterFetch_activeSel (l : List HostOp) (s : State) : (afterFetch l s).activeSel = s.activeSel := rfl
@[simp] theorem afterFetch_gate (l : List HostOp) (s : State) : (afterFetch l s).gate = s.gate := rfl
@[simp] theorem afterFetch_overrun (l : List HostOp) (s : State) : (afterFetch l s).overrun = s.overrun := rfl
@[simp] theorem afterFetch_result (l : List HostOp) (s : State) : (afterFetch l s).result = s.result := rfl
@[simp] theorem afterFetch_lastOp (l : List HostOp) (s : State) : (afterFetch l s).lastOp = s.lastOp := rfl
@[simp] theorem afterFetch_stopReq (l : List HostOp) (s : State) : (afterFetch l s).stopReq = s.stopReq := rfl
@[simp] theorem afterFetch_outUnknown (l : List HostOp) (s : State) : (afterFetch l s).outUnknown = s.outUnknown := rfl
@[simp] theorem afterFetch_errCode (l : List HostOp) (s : State) : (afterFetch l s).errCode = s.errCode := rfl
@[simp] theorem afterFetch_faultKind (l : List HostOp) (s : State) : (afterFetch l s).faultKind = s.faultKind := rfl
@[simp] theorem afterFetch_argPort (l : List HostOp) (s : State) : (afterFetch l s).argPort = s.argPort := rfl
@[simp] theorem afterFetch_argRate (l : List HostOp) (s : State) : (afterFetch l s).argRate = s.argRate := rfl
@[simp] theorem afterFetch_argCount (l : List HostOp) (s : State) : (afterFetch l s).argCount = s.argCount := rfl
@[simp] theorem afterFetch_argDc (l : List HostOp) (s : State) : (afterFetch l s).argDc = s.argDc := rfl
@[simp] theorem afterFetch_lCmd (l : List HostOp) (s : State) : (afterFetch l s).lCmd = s.lCmd := rfl
@[simp] theorem afterFetch_lPort (l : List HostOp) (s : State) : (afterFetch l s).lPort = s.lPort := rfl
@[simp] theorem afterFetch_lRate (l : List HostOp) (s : State) : (afterFetch l s).lRate = s.lRate := rfl
@[simp] theorem afterFetch_lCount (l : List HostOp) (s : State) : (afterFetch l s).lCount = s.lCount := rfl
@[simp] theorem afterFetch_lDc (l : List HostOp) (s : State) : (afterFetch l s).lDc = s.lDc := rfl
@[simp] theorem afterFetch_cfgPort (l : List HostOp) (s : State) : (afterFetch l s).cfgPort = s.cfgPort := rfl
@[simp] theorem afterFetch_cfgRate (l : List HostOp) (s : State) : (afterFetch l s).cfgRate = s.cfgRate := rfl
@[simp] theorem afterFetch_cfgN (l : List HostOp) (s : State) : (afterFetch l s).cfgN = s.cfgN := rfl
@[simp] theorem afterFetch_seqIdx (l : List HostOp) (s : State) : (afterFetch l s).seqIdx = s.seqIdx := rfl
@[simp] theorem afterFetch_out (l : List HostOp) (s : State) : (afterFetch l s).out = s.out := rfl
@[simp] theorem afterFetch_banks (l : List HostOp) (s : State) : (afterFetch l s).banks = s.banks := rfl
@[simp] theorem afterFetch_bankEpoch (l : List HostOp) (s : State) : (afterFetch l s).bankEpoch = s.bankEpoch := rfl
@[simp] theorem afterFetch_platform (l : List HostOp) (s : State) : (afterFetch l s).platform = s.platform := rfl
@[simp] theorem afterFetch_bus (l : List HostOp) (s : State) : (afterFetch l s).bus = s.bus := rfl
@[simp] theorem afterFetch_program (l : List HostOp) (s : State) : (afterFetch l s).program = l := rfl
@[simp] theorem afterFetch_sched (l : List HostOp) (s : State) : (afterFetch l s).sched = s.sched := rfl
@[simp] theorem afterFetch_device (l : List HostOp) (s : State) : (afterFetch l s).device = s.device := rfl
@[simp] theorem afterFetch_lines (l : List HostOp) (s : State) : (afterFetch l s).lines = s.lines := rfl
@[simp] theorem afterFetch_outside (l : List HostOp) (s : State) : (afterFetch l s).outside = s.outside := rfl

/-! ### the choice of who moves -/

@[simp] theorem chosen_devState (s : State) : (chosen s).devState = s.devState := rfl
@[simp] theorem chosen_phase (s : State) : (chosen s).phase = s.phase := rfl
@[simp] theorem chosen_swapPending (s : State) : (chosen s).swapPending = s.swapPending := rfl
@[simp] theorem chosen_activeSel (s : State) : (chosen s).activeSel = s.activeSel := rfl
@[simp] theorem chosen_gate (s : State) : (chosen s).gate = s.gate := rfl
@[simp] theorem chosen_overrun (s : State) : (chosen s).overrun = s.overrun := rfl
@[simp] theorem chosen_result (s : State) : (chosen s).result = s.result := rfl
@[simp] theorem chosen_lastOp (s : State) : (chosen s).lastOp = s.lastOp := rfl
@[simp] theorem chosen_stopReq (s : State) : (chosen s).stopReq = s.stopReq := rfl
@[simp] theorem chosen_outUnknown (s : State) : (chosen s).outUnknown = s.outUnknown := rfl
@[simp] theorem chosen_errCode (s : State) : (chosen s).errCode = s.errCode := rfl
@[simp] theorem chosen_faultKind (s : State) : (chosen s).faultKind = s.faultKind := rfl
@[simp] theorem chosen_argPort (s : State) : (chosen s).argPort = s.argPort := rfl
@[simp] theorem chosen_argRate (s : State) : (chosen s).argRate = s.argRate := rfl
@[simp] theorem chosen_argCount (s : State) : (chosen s).argCount = s.argCount := rfl
@[simp] theorem chosen_argDc (s : State) : (chosen s).argDc = s.argDc := rfl
@[simp] theorem chosen_lCmd (s : State) : (chosen s).lCmd = s.lCmd := rfl
@[simp] theorem chosen_lPort (s : State) : (chosen s).lPort = s.lPort := rfl
@[simp] theorem chosen_lRate (s : State) : (chosen s).lRate = s.lRate := rfl
@[simp] theorem chosen_lCount (s : State) : (chosen s).lCount = s.lCount := rfl
@[simp] theorem chosen_lDc (s : State) : (chosen s).lDc = s.lDc := rfl
@[simp] theorem chosen_cfgPort (s : State) : (chosen s).cfgPort = s.cfgPort := rfl
@[simp] theorem chosen_cfgRate (s : State) : (chosen s).cfgRate = s.cfgRate := rfl
@[simp] theorem chosen_cfgN (s : State) : (chosen s).cfgN = s.cfgN := rfl
@[simp] theorem chosen_seqIdx (s : State) : (chosen s).seqIdx = s.seqIdx := rfl
@[simp] theorem chosen_out (s : State) : (chosen s).out = s.out := rfl
@[simp] theorem chosen_banks (s : State) : (chosen s).banks = s.banks := rfl
@[simp] theorem chosen_bankEpoch (s : State) : (chosen s).bankEpoch = s.bankEpoch := rfl
@[simp] theorem chosen_platform (s : State) : (chosen s).platform = s.platform := rfl
@[simp] theorem chosen_bus (s : State) : (chosen s).bus = s.bus := rfl
@[simp] theorem chosen_program (s : State) : (chosen s).program = s.program := rfl
@[simp] theorem chosen_sched (s : State) : (chosen s).sched = s.sched.advance := rfl
@[simp] theorem chosen_device (s : State) : (chosen s).device = s.device := rfl
@[simp] theorem chosen_lines (s : State) : (chosen s).lines = s.lines := rfl
@[simp] theorem chosen_outside (s : State) : (chosen s).outside = s.outside := rfl

end Sys2Proof.Machine
end

