-- ==== Sys2Proof/Laws/Banks.lean ====
section
/-! SUPPORT. The laws of the banks: what a read finds after a write, and that a write keeps the canonical form. -/

namespace Sys2Proof.Machine

open Sys2Proof.Safety

@[simp] theorem encodeWave_length (d : Duty) (n : Nat) : (encodeWave d n).length = n := by
  simp [encodeWave]

theorem encodeWave_getElem? (d : Duty) (n i : Nat) :
    (encodeWave d n)[i]? = if i < n then some (sample d i) else none := by
  by_cases h : i < n <;> simp [encodeWave, h]

theorem lookup_filter_of_pos (p : Host.Cell → Bool) (a : Nat) (hp : ∀ v, p (a, v) = true)
    (m : List Host.Cell) : (m.filter p).lookup a = m.lookup a := by
  induction m with
  | nil => rfl
  | cons c m ih =>
    obtain ⟨k, v⟩ := c
    by_cases hk : a = k
    · subst hk; simp [hp]
    · have hk' : (a == k) = false := by simpa using hk
      by_cases hc : p (k, v) = true <;> simp [hc, List.lookup_cons, hk', ih]

theorem lookup_filter_of_neg (p : Host.Cell → Bool) (a : Nat) (hp : ∀ v, p (a, v) = false)
    (m : List Host.Cell) : (m.filter p).lookup a = none := by
  induction m with
  | nil => rfl
  | cons c m ih =>
    obtain ⟨k, v⟩ := c
    by_cases hk : a = k
    · subst hk; simpa [List.filter_cons, hp] using ih
    · have hk' : (a == k) = false := by simpa using hk
      by_cases hc : p (k, v) = true <;> simp [hc, List.lookup_cons, hk', ih]

theorem lookup_cellsFrom (base a : Nat) (bs : List Byte) :
    (cellsFrom base bs).lookup a = if base ≤ a then bs[a - base]? else none := by
  induction bs generalizing base with
  | nil => simp [cellsFrom]
  | cons b bs ih =>
    by_cases hk : a = base
    · subst hk; simp [cellsFrom]
    · have hk' : (a == base) = false := by simpa using hk
      rw [cellsFrom, List.lookup_cons, hk', ih]
      by_cases h : base ≤ a
      · have h1 : base + 1 ≤ a := by omega
        have h2 : a - base = (a - (base + 1)) + 1 := by omega
        simp [h, h1, h2]
      · have h1 : ¬ base + 1 ≤ a := by omega
        simp [h, h1]

/-- A read after a write: the new bytes in the run, what was there before it everywhere else. -/
theorem readCell_writeRun (base a : Nat) (bs : List Byte) (m : List Host.Cell) :
    readCell (writeRun base bs m) a =
      if base ≤ a ∧ a < base + bs.length then bs[a - base]? else readCell m a := by
  simp only [readCell, writeRun, List.lookup_append, lookup_cellsFrom]
  by_cases h1 : a < base
  · rw [lookup_filter_of_pos _ a (by simp [h1]), lookup_filter_of_neg (fun c => decide (base + bs.length ≤ c.1)) a
      (by intro v; simp; omega)]
    have h2 : ¬ base ≤ a := by omega
    simp [h2]
  · rw [lookup_filter_of_neg (fun c => decide (c.1 < base)) a (by simp [h1])]
    have h2 : base ≤ a := by omega
    by_cases h3 : a < base + bs.length
    · rw [lookup_filter_of_neg _ a (by intro v; simp; omega)]
      simp [h2, h3]
    · rw [lookup_filter_of_pos _ a (by intro v; simp; omega)]
      have h4 : bs[a - base]? = none := by simp; omega
      simp [h2, h3, h4]

theorem mem_cellsFrom {base : Nat} {bs : List Byte} {c : Host.Cell} (h : c ∈ cellsFrom base bs) :
    base ≤ c.1 ∧ c.1 < base + bs.length := by
  induction bs generalizing base with
  | nil => simp [cellsFrom] at h
  | cons b bs ih =>
    simp only [cellsFrom, List.mem_cons] at h
    rcases h with rfl | h
    · simp
    · have := ih h; simp only [List.length_cons]; omega

theorem cellsFrom_pairwise (base : Nat) (bs : List Byte) :
    (cellsFrom base bs).Pairwise (fun c d => c.1 < d.1) := by
  induction bs generalizing base with
  | nil => simp [cellsFrom]
  | cons b bs ih =>
    refine List.Pairwise.cons (fun c hc => ?_) (ih _)
    have := (mem_cellsFrom hc).1; simp only; omega

theorem memory_wf_iff (m : List Host.Cell) :
    Memory.wf m = true ↔ m.Pairwise (fun c d => c.1 < d.1) ∧ ∀ c ∈ m, c.1 < 512 := by
  simp [Memory.wf]

/-- A write inside the bank space keeps the canonical form. -/
theorem writeRun_wf {base : Nat} {bs : List Byte} {m : List Host.Cell} (hm : Memory.wf m = true)
    (hb : base + bs.length ≤ 512) : Memory.wf (writeRun base bs m) = true := by
  rw [memory_wf_iff] at hm ⊢
  obtain ⟨hp, hlt⟩ := hm
  constructor
  · refine List.pairwise_append.2 ⟨List.pairwise_append.2 ⟨hp.filter _, cellsFrom_pairwise _ _, ?_⟩, hp.filter _, ?_⟩
    · intro c hc d hd
      have h1 := (List.mem_filter.1 hc).2
      have h2 := mem_cellsFrom hd
      simp at h1; omega
    · intro c hc d hd
      have h2 := (List.mem_filter.1 hd).2
      simp at h2
      rcases List.mem_append.1 hc with hc | hc
      · have h1 := (List.mem_filter.1 hc).2
        simp at h1; omega
      · have h1 := mem_cellsFrom hc; omega
  · intro c hc
    rcases List.mem_append.1 hc with hc | hc
    · rcases List.mem_append.1 hc with hc | hc
      · exact hlt c (List.mem_filter.1 hc).1
      · have := mem_cellsFrom hc; omega
    · exact hlt c (List.mem_filter.1 hc).1

/-- The banks operation of START, UPDATE and CLOSE keeps the canonical form (40 R81). -/
theorem writeWave_wf {s : State} (b : Bool) (d : Duty) (hm : Memory.wf s.banks = true)
    (hn : s.cfgN.toNat ≤ 256) : Memory.wf (writeWave b d s).banks = true := by
  refine writeRun_wf hm ?_
  cases b <;> simp [bankAddr] <;> omega

/-- Where bank addresses fall in the run of another bank write. -/
theorem bankAddr_in_run (b b' : Bool) (i n : Nat) (hi : i < 256) (hn : n ≤ 256) :
    (bankAddr b 0 ≤ bankAddr b' i ∧ bankAddr b' i < bankAddr b 0 + n) ↔ (b' = b ∧ i < n) := by
  cases b <;> cases b' <;> simp [bankAddr] <;> omega

/-- What a read of a bank finds after a waveform is written (40 R81). -/
theorem readCell_writeWave (s : State) (b b' : Bool) (d : Duty) (i : Nat) (hi : i < 256)
    (hn : s.cfgN.toNat ≤ 256) :
    readCell (writeWave b d s).banks (bankAddr b' i) =
      if b' = b ∧ i < s.cfgN.toNat then some (sample d i) else readCell s.banks (bankAddr b' i) := by
  rw [writeWave_banks, readCell_writeRun, encodeWave_length]
  simp only [bankAddr_in_run b b' i _ hi hn]
  by_cases h : b' = b ∧ i < s.cfgN.toNat
  · obtain ⟨rfl, hlt⟩ := h
    simp [bankAddr, encodeWave, hlt]
  · simp [h]

end Sys2Proof.Machine
end

