-- ==== Sys2Proof/Laws/Encoder.lean ====
section
/-! SUPPORT. The one lemma about a sample that the encoder's laws (40_encoder.md R72 to R80) rest on. -/

namespace Sys2Proof.Machine

theorem laneBit_getLsbD (d : Duty) (i : Nat) (j k : Fin 8) :
    (laneBit d i j).getLsbD k.val = (decide (k = j) && decide (i < (d.channel j).toNat)) := by
  by_cases h : i < (d.channel j).toNat
  · simp only [laneBit, h, if_true, decide_true, Bool.and_true]
    clear h; revert j k; decide
  · simp [laneBit, h]

/-- Bit j of sample i is set iff i < dc[j] (R68). -/
theorem sample_getLsbD (d : Duty) (i : Nat) (j : Fin 8) :
    (sample d i).getLsbD j.val = decide (i < (d.channel j).toNat) := by
  simp only [sample, BitVec.getLsbD_or, laneBit_getLsbD]
  fin_cases j <;> simp

/-- The all-zero vector's samples are 0 (R77). -/
theorem sample_zero (i : Nat) : sample Duty.zero i = 0#8 := by
  simp [sample, laneBit, Duty.channel, Duty.zero]

end Sys2Proof.Machine
end

