-- ==== Sys2Proof/Laws/Holds.lean ====
section
/-! SUPPORT. What the invariant gives where no wait is on, what a bank write does to what a bank holds, and ticks in a
row. -/

namespace Sys2Proof.Safety

open Sys2Proof.Machine

/-- Outside Streaming the gate is closed and nothing is asked of the Sequencer. -/
theorem MachineInv.quiet_outside_streaming {s : State} (hi : MachineInv s) (h : s.devState ≠ .streaming) :
    s.gate = false ∧ s.swapPending = false ∧ s.stopReq = false := by
  have hg : s.gate = false := by
    cases hg : s.gate with
    | false => rfl
    | true => exact absurd (hi.gate_streams hg).1 h
  refine ⟨hg, ?_, ?_⟩
  · cases e : s.swapPending with
    | false => rfl
    | true => have := (hi.swap_waits e).2; simp_all
  · cases e : s.stopReq with
    | false => rfl
    | true => have := (hi.stop_waits e).2; simp_all

/-- While no command waits, nothing is asked of the Sequencer, and a stream's gate is open. -/
theorem MachineInv.quiet_without_wait {s : State} (hi : MachineInv s) (hp : s.phase = .exec ∨ s.phase = .idle) :
    s.swapPending = false ∧ s.stopReq = false ∧ (s.devState = .streaming → s.gate = true) := by
  refine ⟨?_, ?_, ?_⟩
  · cases e : s.swapPending with
    | false => rfl
    | true => have := (hi.swap_waits e).1; rcases hp with e' | e' <;> simp_all
  · cases e : s.stopReq with
    | false => rfl
    | true => have := (hi.stop_waits e).1; rcases hp with e' | e' <;> simp_all
  · intro h
    rcases hi.streaming_gated h with h | h
    · exact h
    · rcases hp with e' | e' <;> simp_all

/-- A bank holds what was written to it. -/
theorem bankHolds_written {s : State} (hn : s.cfgN.toNat ≤ 256) (b : Bool) (d : Duty) :
    BankHolds (writeWave b d s) b d := by
  intro i hi
  simp only [writeWave_cfgN] at hi
  rw [readCell_writeWave _ _ _ _ _ (by omega) hn]
  simp [hi]

/-- The other bank holds what it held. -/
theorem BankHolds.write_other {s : State} {b b' : Bool} {d' : Duty} (hn : s.cfgN.toNat ≤ 256) (hb : b' ≠ b) (d : Duty)
    (h : BankHolds s b' d') : BankHolds (writeWave b d s) b' d' := by
  intro i hi
  simp only [writeWave_cfgN] at hi
  rw [readCell_writeWave _ _ _ _ _ (by omega) hn]
  simpa [hb] using h i hi

/-- The byte the next tick drives, where the active bank holds a waveform. -/
theorem BankHolds.driven {s : State} {d : Duty} (h : BankHolds s s.activeSel d) (hx : s.seqIdx.toNat < s.cfgN.toNat) :
    drivenByte s = sample d s.seqIdx.toNat := by
  simp [drivenByte, bankByte, h _ hx]

theorem ticks_add (m n : Nat) (s : State) : ticks (m + n) s = ticks n (ticks m s) := by
  induction m generalizing s with
  | zero => simp [ticks]
  | succ m ih =>
    rw [show m + 1 + n = (m + n) + 1 by omega]
    exact ih _

end Sys2Proof.Safety
end

