-- ==== Sys2Proof/Laws/Moves.lean ====
section
/-! SUPPORT. Everything one step of an agent can do, said once: `agentStep_move`. -/

namespace Sys2Proof.Machine

/-- The configuration check is R90's three conditions. -/
theorem configLegal_iff (s : State) :
    configLegal s = true ↔
      (1 ≤ s.lCount.toNat ∧ s.lCount.toNat ≤ 256) ∧
        (1 ≤ s.lRate.toNat ∧ s.lRate.toNat < s.platform.fMaxSampleHz) ∧ s.lPort ∈ s.platform.validPorts := by
  simp only [configLegal, Bool.and_eq_true, decide_eq_true_eq, List.contains_iff_mem]
  tauto

/-- The count OPEN accepts fits CFG_N. -/
theorem configLegal_count {s : State} (h : configLegal s = true) : (s.lCount.setWidth 9).toNat = s.lCount.toNat := by
  have := ((configLegal_iff s).1 h).1
  simp only [BitVec.toNat_setWidth]
  omega

/-- What releasing the port does, by the Device's answer (41 R94, R95). -/
theorem releasePort_cases (s : State) :
    (deviceAnswer s = none ∧ releasePort s = complete .ok (consulted (closeDevice s))) ∨
      ∃ c, deviceAnswer s = some c ∧
        releasePort s = complete .hardwareError (recordError c (consulted (closeDevice s))) := by
  unfold releasePort
  cases h : deviceAnswer s with
  | none => exact .inl ⟨rfl, rfl⟩
  | some c => exact .inr ⟨c, rfl, rfl⟩

/-- Taking a value from a source changes it. -/
theorem supply_ne_advance {α : Type} (p : Supply α) : p ≠ p.advance := by
  intro h
  have := congrArg Supply.count h
  simp [Supply.advance] at this

/-- A CMD word the decoder takes for a command IS that command's word (30 R61). -/
theorem decodeCmd_ok {w : Word} {i : Instr} (h : decodeCmd w = .ok i) :
    (i = .cmdOpen ∧ w = 1#32) ∨ (i = .cmdStart ∧ w = 2#32) ∨ (i = .cmdUpdate ∧ w = 3#32) ∨
      (i = .cmdClose ∧ w = 4#32) := by
  unfold decodeCmd at h
  split at h
  case isFalse => simp at h
  case isTrue hr =>
    have hr' : (w.extractLsb' 4 28).toNat = 0 := by
      have : w.extractLsb' 4 28 = 0#28 := by simpa [cmdReservedZero] using hr
      simp [this]
    have hop : (w.extractLsb' 0 4).toNat = w.toNat := by
      have := w.isLt
      simp only [BitVec.extractLsb'_toNat, Nat.shiftRight_eq_div_pow] at hr' ⊢
      omega
    unfold decodeOpcode at h
    rw [hop] at h
    have word : ∀ k : Nat, w.toNat = k → k < 2 ^ 32 → w = BitVec.ofNat 32 k := by
      intro k hk hlt; apply BitVec.eq_of_toNat_eq; simp only [BitVec.toNat_ofNat, hk]; omega
    split at h <;> cases h
    next hk => exact .inl ⟨rfl, word _ hk (by decide)⟩
    next hk => exact .inr (.inl ⟨rfl, word _ hk (by decide)⟩)
    next hk => exact .inr (.inr (.inl ⟨rfl, word _ hk (by decide)⟩))
    next hk => exact .inr (.inr (.inr ⟨rfl, word _ hk (by decide)⟩))

/-- One step of an agent from `s` to `t`, by what it does. -/
inductive Move : Agent → State → State → Prop where
  /-- A host access that changes nothing of PWM8, or none at all. -/
  | hostQuiet {s : State} (p : List HostOp) (b : BusResponse) (l : Supply Byte) (o : Supply BusResponse) :
      Move .host s { s with program := p, bus := b, lines := l, outside := o }
  /-- A write of an argument register (43 R107). -/
  | hostArgument {s : State} (p : List HostOp) (port rate count : Word) (dc : Duty) :
      Move .host s { s with program := p, bus := .written, argPort := port, argRate := rate, argCount := count, argDc := dc }
  /-- A CMD write, first in the Host's program, while busy (41 R83). -/
  | hostOverrun {s : State} {d : Descriptor} {p : List HostOp} {v : Word} (hp : s.phase ≠ .idle)
      (hs : s.program = .access d :: p) (hd : decodeHostbus d = .ok (.wr .b4 0x00#8 v)) :
      Move .host s { s with program := p, bus := .written, overrun := true }
  /-- A CMD write, first in the Host's program, while idle (41 R82). -/
  | hostAccept {s : State} {d : Descriptor} {p : List HostOp} {v : Word} (hp : s.phase = .idle)
      (hs : s.program = .access d :: p) (hd : decodeHostbus d = .ok (.wr .b4 0x00#8 v)) :
      Move .host s { accept v s with program := p, bus := .written }
  /-- The Controller has no enabled step (41 R84). -/
  | controllerNone {s : State} (he : controllerEnabled s = false) : Move .controller s s
  /-- An illegal word (41 R87). -/
  | illegal {s : State} {e : CmdError} (hp : s.phase = .exec) (hd : decodeCmd s.lCmd = .error e) :
      Move .controller s (complete .illegalCommand s)
  /-- A command in Faulted (41 R88). -/
  | rereport {s : State} (hp : s.phase = .exec) (hs : s.devState = .faulted) (hc : s.lCmd ≠ 4#32) :
      Move .controller s (complete s.faultKind s)
  /-- OPEN or START where the state does not allow it (41 R89, R91). -/
  | wrongState {s : State} (hp : s.phase = .exec) (hs : s.devState ≠ .faulted)
      (hc : (s.lCmd = 1#32 ∧ s.devState ≠ .unopened ∧ s.devState ≠ .closed) ∨ (s.lCmd = 2#32 ∧ s.devState ≠ .opened)) :
      Move .controller s (complete .illegalState s)
  /-- UPDATE where nothing is streaming (41 R92). -/
  | notStreaming {s : State} (hp : s.phase = .exec) (hs : s.devState ≠ .faulted ∧ s.devState ≠ .streaming)
      (hc : s.lCmd = 3#32) : Move .controller s (complete .notStreaming s)
  /-- OPEN with an illegal configuration (41 R90). -/
  | badConfig {s : State} (hp : s.phase = .exec) (hs : s.devState = .unopened ∨ s.devState = .closed)
      (hc : s.lCmd = 1#32) (hl : configLegal s = false) :
      Move .controller s (complete .configurationError (enterFaulted .configurationError none s))
  /-- A Device error in OPEN, START or UPDATE (60 R113). -/
  | deviceError {s : State} (c : Word) (hp : s.phase = .exec) (ha : deviceAnswer s = some c)
      (hc : (s.lCmd = 1#32 ∧ (s.devState = .unopened ∨ s.devState = .closed) ∧ configLegal s = true) ∨
        (s.lCmd = 2#32 ∧ s.devState = .opened) ∨ (s.lCmd = 3#32 ∧ s.devState = .streaming)) :
      Move .controller s (failHardware c (consulted s))
  /-- OPEN applied (41 R89). -/
  | opens {s : State} (hp : s.phase = .exec) (hs : s.devState = .unopened ∨ s.devState = .closed) (hc : s.lCmd = 1#32)
      (hl : configLegal s = true) (ha : deviceAnswer s = none) :
      Move .controller s (complete .ok (configure (consulted s)))
  /-- START applied (41 R91). -/
  | starts {s : State} (hp : s.phase = .exec) (hs : s.devState = .opened) (hc : s.lCmd = 2#32)
      (ha : deviceAnswer s = none) :
      Move .controller s (complete .ok (beginStream (writeWave false s.lDc (consulted s))))
  /-- UPDATE executed (41 R92). -/
  | updates {s : State} (hp : s.phase = .exec) (hs : s.devState = .streaming) (hc : s.lCmd = 3#32)
      (ha : deviceAnswer s = none) :
      Move .controller s (awaitSwap (writeWave (!s.activeSel) s.lDc (consulted s)))
  /-- CLOSE with nothing to release (41 R94). -/
  | closesNothing {s : State} (hp : s.phase = .exec) (hs : s.devState = .closed ∨ s.devState = .unopened)
      (hc : s.lCmd = 4#32) : Move .controller s (complete .ok s)
  /-- CLOSE from Streaming (41 R94). -/
  | closesStream {s : State} (hp : s.phase = .exec) (hs : s.devState = .streaming) (hc : s.lCmd = 4#32) :
      Move .controller s (awaitStop (writeWave (!s.activeSel) Duty.zero s))
  /-- CLOSE from Open or Faulted (41 R94). -/
  | releases {s : State} (hp : s.phase = .exec) (hs : s.devState = .opened ∨ s.devState = .faulted)
      (hc : s.lCmd = 4#32) : Move .controller s (releasePort s)
  /-- The UPDATE completion step (41 R93). -/
  | updateDone {s : State} (hp : s.phase = .waitSwap) (hs : s.swapPending = false) :
      Move .controller s (complete .ok s)
  /-- The CLOSE completion step (41 R95). -/
  | closeDone {s : State} (hp : s.phase = .waitStop) (hg : s.gate = false) : Move .controller s (releasePort s)
  /-- The gate is closed (42 R100). -/
  | gateClosed {s : State} (hg : s.gate = false) : Move .sequencer s s
  /-- A tick inside a cycle (42 R97). -/
  | ticks {s : State} (hg : s.gate = true) (hw : atWrap s = false) :
      Move .sequencer s { s with out := drivenByte s, outUnknown := false, seqIdx := s.seqIdx + 1#8 }
  /-- A wrap that takes the swap (42 R98(a)). -/
  | swaps {s : State} (hg : s.gate = true) (hw : atWrap s = true) (hp : s.swapPending = true) :
      Move .sequencer s { s with
        out := drivenByte s, outUnknown := false, seqIdx := 0#8, activeSel := !s.activeSel, swapPending := false }
  /-- A wrap that stops (42 R98(b)). -/
  | stops {s : State} (hg : s.gate = true) (hw : atWrap s = true) (hp : s.swapPending = false) (hr : s.stopReq = true) :
      Move .sequencer s { s with
        out := drivenByte s, outUnknown := false, seqIdx := 0#8, gate := false, stopReq := false }
  /-- A wrap with nothing asked for (42 R99). -/
  | repeats {s : State} (hg : s.gate = true) (hw : atWrap s = true) (hp : s.swapPending = false)
      (hr : s.stopReq = false) :
      Move .sequencer s { s with out := drivenByte s, outUnknown := false, seqIdx := 0#8 }
  /-- The platform reset (70 R126). -/
  | resets {s : State} : Move .reset s (platformReset s)

theorem access_read_move (w : Width) (off : Byte) (rest p : List HostOp) (s : State) :
    Move .host s { access w off performRead (afterFetch rest s) with program := p } := by
  unfold access
  split
  · split
    · cases regAt off with
      | none => exact .hostQuiet p .busError s.lines s.outside
      | some r =>
        simp only [performRead, takeDraw]
        split
        · exact .hostQuiet p _ s.lines.advance s.outside
        · exact .hostQuiet p _ s.lines s.outside
    · exact .hostQuiet p .busError s.lines s.outside
  · exact .hostQuiet p _ s.lines s.outside.advance

/-- An access of 4 bytes at a multiple of 4 has the width 4 (20 R46). -/
theorem accessAligned_width {w : Width} {off : Byte} (h : accessAligned w off = true) : w = .b4 := by
  cases w <;> simp_all [accessAligned, Width.bytes]

/-- Only offset 0x00 is CMD (10 R18). -/
theorem regAt_cmd {off : Byte} (h : regAt off = some .cmd) : off = 0x00#8 := by
  unfold regAt at h
  split at h
  next h0 => exact BitVec.eq_of_toNat_eq h0
  all_goals cases h

theorem access_write_move {w : Width} {off : Byte} {v : Word} {d : Descriptor} {rest : List HostOp} {s : State}
    (hs : s.program = .access d :: rest) (hd : decodeHostbus d = .ok (.wr w off v)) :
    Move .host s (access w off (performWrite v) (afterFetch rest s)) := by
  unfold access
  split
  · split
    next ha =>
      cases hr : regAt off with
      | none => exact .hostQuiet rest .busError s.lines s.outside
      | some r =>
        have quiet : Move .host s (respond .written (afterFetch rest s)) :=
          .hostQuiet rest .written s.lines s.outside
        cases r with
        | cmd =>
          rw [accessAligned_width ha, regAt_cmd hr] at hd
          simp only [performWrite, writeReg, writeCmd]
          split
          next h => exact .hostAccept h hs hd
          next h => exact .hostOverrun h hs hd
        | portId => exact .hostArgument rest v s.argRate s.argCount s.argDc
        | sampleRate => exact .hostArgument rest s.argPort v s.argCount s.argDc
        | sampleCount => exact .hostArgument rest s.argPort s.argRate v s.argDc
        | dcLo => exact .hostArgument rest s.argPort s.argRate s.argCount (s.argDc.withLo v)
        | dcHi => exact .hostArgument rest s.argPort s.argRate s.argCount (s.argDc.withHi v)
        | status | errCode | fault | cfgPort | cfgRate | cfgN | seqIdx | out | reserved38 | reserved3C => exact quiet
    · exact .hostQuiet rest .busError s.lines s.outside
  · exact .hostQuiet rest _ s.lines s.outside.advance

/-- A decoded descriptor is a host access (30 R62). -/
theorem decodeHostbus_ok {d : Descriptor} {i : Instr} (h : decodeHostbus d = .ok i) :
    (∃ w off, i = .rd w off) ∨ (∃ w off v, i = .wr w off v) := by
  unfold decodeHostbus at h
  split at h
  · split at h
    · exact .inr ⟨_, _, _, by simpa using h.symm⟩
    · split at h
      · exact .inl ⟨_, _, by simpa using h.symm⟩
      · simp at h
  · simp at h

theorem hostStep_move {s t : State} (h : hostStep s = .next t) : Move .host s t := by
  unfold hostStep at h
  split at h
  · cases h; exact .hostQuiet s.program s.bus s.lines s.outside
  next d rest hs =>
    unfold hostAccess at h
    split at h
    next i hi =>
      rcases decodeHostbus_ok hi with ⟨w, off, rfl⟩ | ⟨w, off, v, rfl⟩
      · cases h
        have := access_read_move w off rest (access w off performRead (afterFetch rest s)).program s
        exact this
      · cases h; exact access_write_move hs hi
    · cases h
  next rest _ =>
    cases h
    unfold hostWait
    dsimp only
    split
    · exact access_read_move _ _ rest _ s
    · exact access_read_move .b4 (regOffset .status) rest
        (access .b4 (regOffset .status) performRead (afterFetch rest s)).program s

theorem executeStep_move {s t : State} (hp : s.phase = .exec) (h : executeStep s = .next t) :
    Move .controller s t := by
  unfold executeStep at h
  split at h
  next i hi =>
    rcases decodeCmd_ok hi with ⟨rfl, hw⟩ | ⟨rfl, hw⟩ | ⟨rfl, hw⟩ | ⟨rfl, hw⟩ <;> cases h
    · unfold unlessFaulted openExec
      split
      next hf => exact .rereport hp hf (by rw [hw]; decide)
      next hf =>
        split
        next hs =>
          split
          next hl =>
            split
            next c ha => exact .deviceError c hp ha (.inl ⟨hw, hs, hl⟩)
            next ha => exact .opens hp hs hw hl ha
          next hl => exact .badConfig hp hs hw (by simpa using hl)
        next hs => exact .wrongState hp hf (.inl ⟨hw, fun e => hs (.inl e), fun e => hs (.inr e)⟩)
    · unfold unlessFaulted startExec
      split
      next hf => exact .rereport hp hf (by rw [hw]; decide)
      next hf =>
        split
        next hs =>
          split
          next c ha => exact .deviceError c hp ha (.inr (.inl ⟨hw, hs⟩))
          next ha => exact .starts hp hs hw ha
        next hs => exact .wrongState hp hf (.inr ⟨hw, hs⟩)
    · unfold unlessFaulted updateExec
      split
      next hf => exact .rereport hp hf (by rw [hw]; decide)
      next hf =>
        split
        next hs =>
          split
          next c ha => exact .deviceError c hp ha (.inr (.inr ⟨hw, hs⟩))
          next ha => exact .updates hp hs hw ha
        next hs => exact .notStreaming hp ⟨hf, hs⟩ hw
    · unfold closeExec
      split
      next hs => exact .closesNothing hp (.inl hs) hw
      next hs => exact .closesNothing hp (.inr hs) hw
      next hs => exact .closesStream hp hs hw
      next hs => exact .releases hp (.inl hs) hw
      next hs => exact .releases hp (.inr hs) hw
  next e he => cases h; exact .illegal hp he

theorem controllerStep_move {s t : State} (h : controllerStep s = .next t) : Move .controller s t := by
  unfold controllerStep at h
  split at h
  next hp => cases h; exact .controllerNone (by simp [controllerEnabled, hp])
  next hp => exact executeStep_move hp h
  next hp =>
    split at h <;> cases h
    next hs => exact .controllerNone (by simp [controllerEnabled, hp, hs])
    next hs => exact .updateDone hp (by simpa using hs)
  next hp =>
    split at h <;> cases h
    next hg => exact .controllerNone (by simp [controllerEnabled, hp, hg])
    next hg => exact .closeDone hp (by simpa using hg)

theorem sequencerStep_move (s : State) : Move .sequencer s (sequencerStep s) := by
  unfold sequencerStep
  split
  next hg =>
    unfold tick
    dsimp only
    split
    next hw =>
      unfold wrap
      dsimp only
      split
      next hp => exact .swaps hg hw hp
      next hp =>
        split
        next hr => exact .stops hg hw (by simpa using hp) hr
        next hr => exact .repeats hg hw (by simpa using hp) (by simpa using hr)
    next hw => exact .ticks hg (by simpa using hw)
  next hg => exact .gateClosed (by simpa using hg)

/-- Every step of an agent that answers a next state is one of the moves above. -/
theorem agentStep_move {a : Agent} {s t : State} (h : agentStep a s = .next t) : Move a s t := by
  cases a with
  | host => exact hostStep_move h
  | controller => exact controllerStep_move h
  | sequencer => cases h; exact sequencerStep_move s
  | reset => cases h; exact .resets

end Sys2Proof.Machine
end

