-- ==== Sys2Proof/Laws/PerInstr.lean ====
section
/-! SUPPORT. Statements made per instruction. `WordShape`: each instruction's raw word has the fields of its format
(30_encoding.md R58, R59) and the opcode bits of its table row (R61, R62). -/

namespace Sys2Proof.Laws

/-- The bits of a descriptor, field by field. -/
theorem descriptorOf_bit (w : BitVec 1) (sz : Width) (off : Byte) (data : Word) (k : Nat) :
    (descriptorOf w sz off data).getLsbD k =
      if k < 32 then data.getLsbD k else if k < 40 then off.getLsbD (k - 32)
      else if k < 42 then sz.code.getLsbD (k - 40) else if k < 47 then false else w.getLsbD (k - 47) := by
  have h : (descriptorOf w sz off data).getLsbD k = ((((w ++ 0#5) ++ sz.code) ++ off) ++ data).getLsbD k := rfl
  rw [h]
  simp only [BitVec.getLsbD_append, Nat.sub_sub, BitVec.getLsbD_zero]
  split_ifs <;> first | rfl | omega

theorem descriptorOf_w (w : BitVec 1) (sz : Width) (off : Byte) (data : Word) :
    (descriptorOf w sz off data).getLsbD 47 = w.getLsbD 0 := by
  rw [descriptorOf_bit]; rfl

theorem descriptorOf_rsv (w : BitVec 1) (sz : Width) (off : Byte) (data : Word) :
    (descriptorOf w sz off data).extractLsb' 42 5 = 0#5 := by
  apply BitVec.eq_of_getLsbD_eq
  intro k hk
  have h1 : ¬ 42 + k < 32 := by omega
  have h2 : ¬ 42 + k < 40 := by omega
  have h3 : ¬ 42 + k < 42 := by omega
  have h4 : 42 + k < 47 := by omega
  simp [BitVec.getLsbD_extractLsb', descriptorOf_bit, h1, h2, h4]

theorem descriptorOf_sz (w : BitVec 1) (sz : Width) (off : Byte) (data : Word) :
    (descriptorOf w sz off data).extractLsb' 40 2 = sz.code := by
  apply BitVec.eq_of_getLsbD_eq
  intro k hk
  have h1 : ¬ 40 + k < 32 := by omega
  have h2 : ¬ 40 + k < 40 := by omega
  have h3 : 40 + k < 42 := by omega
  simp [descriptorOf_bit, hk, h1, h3]

theorem descriptorOf_off (w : BitVec 1) (sz : Width) (off : Byte) (data : Word) :
    (descriptorOf w sz off data).extractLsb' 32 8 = off := by
  apply BitVec.eq_of_getLsbD_eq
  intro k hk
  have h1 : ¬ 32 + k < 32 := by omega
  have h2 : 32 + k < 40 := by omega
  simp [descriptorOf_bit, hk, h2]

theorem descriptorOf_data (w : BitVec 1) (sz : Width) (off : Byte) (data : Word) :
    (descriptorOf w sz off data).extractLsb' 0 32 = data := by
  apply BitVec.eq_of_getLsbD_eq
  intro k hk
  have h1 : 0 + k < 32 := by omega
  simp [descriptorOf_bit, hk]

namespace WordShape

/-- The raw word of an instruction, field by field. -/
def Statement (i : Instr) : Prop :=
  match i with
  | .cmdOpen => ∃ w, encode i = .cmd w ∧ w.extractLsb' 4 28 = 0#28 ∧ w.extractLsb' 0 4 = 0x1#4
  | .cmdStart => ∃ w, encode i = .cmd w ∧ w.extractLsb' 4 28 = 0#28 ∧ w.extractLsb' 0 4 = 0x2#4
  | .cmdUpdate => ∃ w, encode i = .cmd w ∧ w.extractLsb' 4 28 = 0#28 ∧ w.extractLsb' 0 4 = 0x3#4
  | .cmdClose => ∃ w, encode i = .cmd w ∧ w.extractLsb' 4 28 = 0#28 ∧ w.extractLsb' 0 4 = 0x4#4
  | .rd sz off => ∃ d, encode i = .hostbus d ∧ d.getLsbD 47 = false ∧ d.extractLsb' 42 5 = 0#5 ∧
      d.extractLsb' 40 2 = sz.code ∧ d.extractLsb' 32 8 = off ∧ d.extractLsb' 0 32 = 0#32
  | .wr sz off data => ∃ d, encode i = .hostbus d ∧ d.getLsbD 47 = true ∧ d.extractLsb' 42 5 = 0#5 ∧
      d.extractLsb' 40 2 = sz.code ∧ d.extractLsb' 32 8 = off ∧ d.extractLsb' 0 32 = data

theorem cmdOpen : Statement .cmdOpen := ⟨1#32, rfl, by decide, by decide⟩

theorem cmdStart : Statement .cmdStart := ⟨2#32, rfl, by decide, by decide⟩

theorem cmdUpdate : Statement .cmdUpdate := ⟨3#32, rfl, by decide, by decide⟩

theorem cmdClose : Statement .cmdClose := ⟨4#32, rfl, by decide, by decide⟩

theorem rd (width : Width) (off : Byte) : Statement (.rd width off) :=
  ⟨_, rfl, by rw [descriptorOf_w]; rfl, descriptorOf_rsv .., descriptorOf_sz .., descriptorOf_off .., descriptorOf_data ..⟩

theorem wr (width : Width) (off : Byte) (data : Word) : Statement (.wr width off data) :=
  ⟨_, rfl, by rw [descriptorOf_w]; rfl, descriptorOf_rsv .., descriptorOf_sz .., descriptorOf_off .., descriptorOf_data ..⟩

end WordShape

end Sys2Proof.Laws
end

