-- ==== Sys2Proof/Tests/Slice0.lean ====
section
/-! SUPPORT. The package's own tests. Expected values come from spec/95_test_vectors.md and the worked examples of the
rules, never from the model. First the formats, then the steps, then for each obligation a witness that its hypotheses
can be met. -/

namespace Sys2Proof.Tests

open Sys2Proof.Machine Sys2Proof.Safety

/-! ### The checks of WellFormed, each refusing a term that fails it -/

/-- T-HOST-14: RSV is not 0. -/
theorem test_wf_descriptor_reserved : descriptorReservedZero 0x061000000000#48 = false ∧
    descriptorWellFormed 0x061000000000#48 = false := by decide

/-- T-HOST-15: a read with DATA. -/
theorem test_wf_descriptor_read_data : descriptorReadDataZero 0x020400000001#48 = false ∧
    descriptorWellFormed 0x020400000001#48 = false := by decide

/-- R87: 0x00000011 is illegal; T-CMD-32: 0x00000014 is no CLOSE. -/
theorem test_wf_cmd_reserved : cmdReservedZero 0x00000011#32 = false ∧ cmdLegal 0x00000014#32 = false := by decide

/-- R61: OP = 0 and OP = 5 to 15 are reserved (the boundary values). -/
theorem test_wf_cmd_opcode : cmdOpcodeDefined 0x00000000#32 = false ∧ cmdOpcodeDefined 0x00000005#32 = false ∧
    cmdOpcodeDefined 0x0000000F#32 = false ∧ cmdOpcodeDefined 0x00000004#32 = true := by decide

/-- A host program's descriptor, and a raw word of each format, that is not well-formed. -/
theorem test_wf_program : HostOp.wellFormed (.access 0x061000000000#48) = false ∧ HostOp.wellFormed .wait = true ∧
    RawInstr.wellFormed (.cmd 0x00000014#32) = false ∧ RawInstr.wellFormed (.hostbus 0x020400000001#48) = false := by
  decide

/-! ### Decoding: words written out from the formats -/

/-- R61: OP = 1, bits [31:4] = 0. -/
theorem test_decode_open : decode (.cmd 0b00000000000000000000000000000001#32) = some .cmdOpen := by decide

theorem test_decode_start : decode (.cmd 0b00000000000000000000000000000010#32) = some .cmdStart := by decide

theorem test_decode_update : decode (.cmd 0b00000000000000000000000000000011#32) = some .cmdUpdate := by decide

theorem test_decode_close : decode (.cmd 0b00000000000000000000000000000100#32) = some .cmdClose := by decide

/-- R59, T-HOST-6: W = 0, RSV = 0, SZ = 3, OFF = 0x04, DATA = 0. -/
theorem test_decode_rd : decode (.hostbus
    0b0_00000_11_00000100_00000000000000000000000000000000#48) = some (.rd .b8 0x04#8) := by decide

/-- R59, T-HOST-2: W = 1, RSV = 0, SZ = 2, OFF = 0x20, DATA = 0x11223344. -/
theorem test_decode_wr : decode (.hostbus
    0b1_00000_10_00100000_00010001001000100011001101000100#48) = some (.wr .b4 0x20#8 0x11223344#32) := by decide

/-- T-HOST-14, T-HOST-15, T-CMD-31 and T-CMD-32: refused by name. -/
theorem test_decode_refusals : decodeHostbus 0x061000000000#48 = .error .reservedBits ∧
    decodeHostbus 0x020400000001#48 = .error .readData ∧ decodeCmd 0x00000000#32 = .error .reservedOpcode ∧
    decodeCmd 0x00000014#32 = .error .reservedBits := by
  refine ⟨rfl, rfl, rfl, rfl⟩

/-- The table's match words, in its 32-bit and 48-bit numbering. -/
theorem test_decode_table : decodeTableWord 32 0x00000004 = some .cmdClose ∧
    decodeTableWord 48 0x000000000000 = some (.rd .b1 0x00#8) ∧
    decodeTableWord 48 0x800000000000 = some (.wr .b1 0x00#8 0#32) ∧ decodeTableWord 32 5 = none := by decide

/-! ### Small states, in the parameters of 95 §0 -/

/-- What a step leaves, read through a view. -/
def look {α : Type} (f : State → α) : Host.Outcome State Fault Refusal → Option α
  | .next t => some (f t)
  | .fault _ => none
  | .refused _ => none

/-- F_MAX_SAMPLE_HZ = 10,000,000 and VALID_PORTS is port 3 alone. -/
def plat : Platform := ⟨10000000, [3#32], 0⟩

/-- One duty cycle in channel 0. -/
def duty0 (v : Byte) : Duty := ⟨v, 0#8, 0#8, 0#8, 0#8, 0#8, 0#8, 0#8⟩

/-- The duty cycles of T-ENC-6. -/
def duty6 : Duty := ⟨1#8, 2#8, 3#8, 4#8, 0#8, 5#8, 255#8, 0#8⟩

/-- After reset, with no error in the Device's next answers. -/
def fresh : State := { State.reset with platform := plat, device := ⟨[none, none, none], 0⟩ }

/-- Open at 60000 samples per second. -/
def opened (n : BitVec 9) : State :=
  { fresh with devState := .opened, cfgPort := 3#32, cfgRate := 60000#32, cfgN := n, lCmd := 1#32, lastOp := 1#4 }

/-- Streaming dc = [1,0,...] from bank 0 at N = 2, two samples 0x01, 0x00, about to drive sample i. -/
def streaming (i : BitVec 8) : State :=
  { opened 2#9 with
    devState := .streaming, gate := true, lCmd := 2#32, lastOp := 2#4, lDc := duty0 1#8, seqIdx := i,
    banks := [(0, 0x01#8), (1, 0x00#8)] }

/-- An UPDATE to dc = [2,0,...] waits for its swap. -/
def swapping (i : BitVec 8) : State :=
  { streaming i with
    lCmd := 3#32, lDc := duty0 2#8, phase := .waitSwap, swapPending := true,
    banks := [(0, 0x01#8), (1, 0x00#8), (256, 0x01#8), (257, 0x01#8)] }

/-- Its swap is taken. -/
def swapped : State :=
  { swapping 0#8 with swapPending := false, activeSel := true }

/-- A CLOSE waits for the swap to the zero bank. -/
def closing (i : BitVec 8) : State :=
  { streaming i with
    lCmd := 4#32, phase := .waitStop, swapPending := true, stopReq := true,
    banks := [(0, 0x01#8), (1, 0x00#8), (256, 0x00#8), (257, 0x00#8)] }

/-- The zero bank is active; the stop is still to come. -/
def zeroing (i : BitVec 8) : State :=
  { closing i with swapPending := false, activeSel := true }

/-- The gate is closed. -/
def stopped : State :=
  { zeroing 0#8 with stopReq := false, gate := false }

/-- Faulted by a configuration error. -/
def faulted : State :=
  { fresh with devState := .faulted, faultKind := .configurationError }

/-- A command accepted and not yet executed. -/
def executing (v : Word) (s : State) : State :=
  { s with phase := .exec, lCmd := v }

/-- OPEN's arguments as latched. -/
def openArgs (port rate n : Word) (s : State) : State :=
  { s with lPort := port, lRate := rate, lCount := n }

/-- The Device's next answer. -/
def answering (r : Option Word) (s : State) : State :=
  { s with device := ⟨[r], 0⟩ }

/-- Whose turn it is. -/
def turn (a : Agent) (s : State) : State :=
  { s with sched := ⟨[a], 0⟩ }

/-- A host program of one descriptor. -/
def fetching (d : Descriptor) (s : State) : State :=
  { s with program := [.access d] }

/-! ### The encoder -/

/-- T-ENC-6 and T-ENC-13. -/
theorem test_encode_wave : encodeWave duty6 4 = [0x6F#8, 0x6E#8, 0x6C#8, 0x68#8] ∧
    encodeWave ⟨8#8, 7#8, 6#8, 5#8, 4#8, 3#8, 2#8, 1#8⟩ 8 =
      [0xFF#8, 0x7F#8, 0x3F#8, 0x1F#8, 0x0F#8, 0x07#8, 0x03#8, 0x01#8] := by decide

/-- T-ENC-5, T-ENC-10 and T-ENC-14: channel 7 is bit 7, and dc > N. -/
theorem test_encode_wave_edges :
    sample ⟨0#8, 0#8, 0#8, 0#8, 0#8, 0#8, 0#8, 255#8⟩ 254 = 0x80#8 ∧
    sample ⟨0#8, 0#8, 0#8, 0#8, 0#8, 0#8, 0#8, 255#8⟩ 255 = 0x00#8 ∧
    encodeWave ⟨0#8, 0#8, 0#8, 0#8, 0#8, 0#8, 0#8, 200#8⟩ 1 = [0x80#8] ∧
    encodeWave (duty0 3#8) 2 = [0x01#8, 0x01#8] := by decide

/-! ### Commands -/

/-- T-CMD-1: Open, CFG_N = 0x100, STATUS 0x00001001. -/
theorem test_open_ok : look (fun t => (statusWord t, t.cfgPort, t.cfgRate, t.cfgN))
    (exec .cmdOpen (openArgs 3#32 7680000#32 256#32 (executing 1#32 fresh))) =
    some (0x00001001#32, 3#32, 0x00753000#32, 0x100#9) := by decide

/-- T-CMD-9: a Device error at OPEN. -/
theorem test_open_device_error : look (fun t => (statusWord t, t.faultKind, t.errCode, t.cfgN))
    (exec .cmdOpen (answering (some 0x1234#32) (openArgs 3#32 60000#32 2#32 (executing 1#32 fresh)))) =
    some (0x00021204#32, .hardwareError, 0x1234#32, 0#9) := by decide

/-- P3 step 2: BANK[0] holds T-ENC-6, STATUS 0x00002042. -/
theorem test_start_ok : look (fun t => (statusWord t, t.seqIdx, t.banks))
    (exec .cmdStart { executing 2#32 (opened 4#9) with lDc := duty6 }) =
    some (0x00002042#32, 0#8, [(0, 0x6F#8), (1, 0x6E#8), (2, 0x6C#8), (3, 0x68#8)]) := by decide

/-- T-CMD-10: START in Unopened. -/
theorem test_start_illegal : look statusWord (exec .cmdStart (executing 2#32 fresh)) = some 0x00002400#32 := by
  decide

/-- P4 step 4: BANK[1] = 0x03, 0x03, STATUS 0x0000205A. -/
theorem test_update_ok : look (fun t => (statusWord t, t.banks))
    (exec .cmdUpdate { executing 3#32 (streaming 0#8) with lDc := ⟨2#8, 2#8, 0#8, 0#8, 0#8, 0#8, 0#8, 0#8⟩ }) =
    some (0x0000205A#32, [(0, 0x01#8), (1, 0x00#8), (256, 0x03#8), (257, 0x03#8)]) := by decide

/-- T-CMD-20: a Device error at UPDATE; the index is frozen, no bank is written. -/
theorem test_update_device_error : look (fun t => (statusWord t, t.seqIdx, t.errCode, t.banks))
    (exec .cmdUpdate (answering (some 0x55#32) { executing 3#32 (streaming 1#8) with lDc := duty0 2#8 })) =
    some (0x00023204#32, 1#8, 0x55#32, [(0, 0x01#8), (1, 0x00#8)]) := by decide

/-- R94 in Streaming: BUSY, SWAP_PENDING, RUNNING and STOP_REQ, zeros in the shadow bank. -/
theorem test_close_streaming : look (fun t => (statusWord t, t.banks))
    (exec .cmdClose (executing 4#32 (streaming 0#8))) =
    some (0x0001205A#32, [(0, 0x01#8), (1, 0x00#8), (256, 0x00#8), (257, 0x00#8)]) := by decide

/-- T-CMD-17: a Device error at CLOSE in Open leaves Closed and FAULT_KIND unchanged. -/
theorem test_close_device_error : look (fun t => (statusWord t, t.errCode, t.faultKind))
    (exec .cmdClose (answering (some 0x99#32) (executing 4#32 (opened 2#9)))) =
    some (0x00024203#32, 0x99#32, .ok) := by decide

/-- T-CMD-33: in Faulted the decode check comes before the re-report; T-CMD-27: UPDATE re-reports. -/
theorem test_faulted_priority :
    look statusWord (agentStep .controller (executing 0x0000000F#32 faulted)) = some 0x0000F504#32 ∧
    look statusWord (agentStep .controller (executing 3#32 faulted)) = some 0x00003104#32 := by decide

/-- T-CMD-4 to T-CMD-8: what is at fault in each OPEN; T-CMD-2 and T-CMD-3: the smallest and the largest legal. -/
theorem test_config_bounds :
    configLegal (openArgs 3#32 10000000#32 2#32 fresh) = false ∧ configLegal (openArgs 3#32 0#32 2#32 fresh) = false ∧
    configLegal (openArgs 4#32 60000#32 2#32 fresh) = false ∧ configLegal (openArgs 3#32 60000#32 257#32 fresh) = false ∧
    configLegal (openArgs 3#32 60000#32 0#32 fresh) = false ∧ configLegal (openArgs 3#32 1#32 1#32 fresh) = true ∧
    configLegal (openArgs 3#32 9999999#32 256#32 fresh) = true := by decide

/-- T-CMD-21 at its completion step: ACTIVE_BANK = 1, OUT = 0x00. -/
theorem test_close_completion : look (fun t => (statusWord t, t.out)) (agentStep .controller stopped) =
    some (0x00004023#32, 0x00#8) := by decide

/-! ### Sequencer -/

/-- T-SEQ-1's first tick, and T-SEQ-12. -/
theorem test_tick : look (fun t => (t.out, t.seqIdx)) (agentStep .sequencer (streaming 0#8)) =
      some (0x01#8, 1#8) ∧
    look (fun t => (t.out, t.seqIdx)) (agentStep .sequencer stopped) = some (0x00#8, 0#8) := by decide

/-- T-SEQ-3: the wrap takes the swap, and the gate stays open. -/
theorem test_wrap_swaps : look (fun t => (t.out, t.seqIdx, t.activeSel, t.swapPending, t.stopReq, t.gate))
    (agentStep .sequencer (closing 1#8)) = some (0x00#8, 0#8, true, false, true, true) := by decide

/-- T-SEQ-4: the wrap closes the gate. -/
theorem test_wrap_stops : look (fun t => (t.out, t.seqIdx, t.gate, t.stopReq))
    (agentStep .sequencer (zeroing 1#8)) = some (0x00#8, 0#8, false, false) := by decide

/-- T-SEQ-5: a tick inside the cycle takes no swap. -/
theorem test_tick_keeps_swap : look (fun t => (t.seqIdx, t.swapPending, t.activeSel))
    (agentStep .sequencer (swapping 0#8)) = some (1#8, true, false) := by decide

/-! ### Host access -/

/-- T-HOST-13: the worked example of R106. -/
theorem test_rd_status : look State.bus
    (exec (.rd .b4 0x04#8) { swapped with phase := .idle, lastOp := 3#4 }) = some (.data 0x00003062#32) := by decide

/-- T-HOST-7 and T-HOST-4. -/
theorem test_rd_misaligned : look State.bus (exec (.rd .b4 0x06#8) fresh) = some .busError ∧
    look State.bus (exec (.rd .b4 0x00#8) (executing 1#32 fresh)) = some (.data 0#32) := by decide

/-- T-HOST-2: the bytes of DC_HI by channel. -/
theorem test_wr_dc_hi : look (fun t => (t.argDc.ch4, t.argDc.ch5, t.argDc.ch6, t.argDc.ch7))
    (exec (.wr .b4 0x20#8 0x11223344#32) fresh) = some (0x44#8, 0x33#8, 0x22#8, 0x11#8) := by decide

/-- T-HOST-8: a narrow CMD write starts nothing; T-CMD-34: a CMD write while busy is dropped. -/
theorem test_wr_cmd : look (fun t => (t.bus, t.phase, t.overrun)) (exec (.wr .b2 0x00#8 1#32) fresh) =
      some (.busError, .idle, false) ∧
    look (fun t => (t.lCmd, t.overrun)) (exec (.wr .b4 0x00#8 4#32) (swapping 0#8)) = some (3#32, true) := by decide

/-- 95 §3 P1, assembler form: its descriptors 1 to 4, 6 to 8. -/
theorem test_assembler : asmOpen 3#32 7680000#32 256#32 = [.access 0x821000000003#48, .access 0x821400753000#48,
      .access 0x821800000100#48, .access 0x820000000001#48, .wait] ∧
    asmStart (duty0 128#8) = [.access 0x821C00000080#48, .access 0x822000000000#48, .access 0x820000000002#48,
      .wait] := by decide

/-! ### A first instruction after reset -/

/-- The table's words run as the first instruction after reset: STATUS after T-CMD-10 to T-CMD-12. -/
theorem test_first_command :
    look statusWord (step (State.reset.withFetchWord 32 2)) = some 0x00002400#32 ∧
    look statusWord (step (State.reset.withFetchWord 32 3)) = some 0x00003300#32 ∧
    look statusWord (step (State.reset.withFetchWord 32 4)) = some 0x00004000#32 := by decide

/-- T-HOST-1, and a read of STATUS at reset. -/
theorem test_first_access :
    look State.argPort (step (State.reset.withFetchWord 48 0x821000000003)) = some 3#32 ∧
    look State.bus (step (State.reset.withFetchWord 48 0x020400000000)) = some (.data 0#32) := by decide

/-! ### The invariant in small states -/

/-- The duty cycles whose waveform a bank of the small states holds. -/
theorem bankHolds_of_check {s : State} {b : Bool} {d : Duty}
    (h : (List.range s.cfgN.toNat).all (fun i => readCell s.banks (bankAddr b i) == some (sample d i)) = true) :
    BankHolds s b d := by
  intro i hi
  simpa using List.all_eq_true.mp h i (List.mem_range.mpr hi)

theorem test_inv_fresh : MachineInv fresh where
  swap_waits := by decide
  stop_waits := by decide
  gate_streams := by decide
  streaming_gated := by decide
  active_written := fun h => absurd h (by decide)
  shadow_written := fun h => bankHolds_of_check (by revert h; decide)
  waitSwap_command := by decide
  waitStop_command := by decide
  waitStop_requested := by decide
  swapped_update := fun h h' => bankHolds_of_check (by revert h h'; decide)
  swapped_zero := fun h h' => bankHolds_of_check (by revert h h'; decide)
  stopped_low := by decide
  config_in_force := by unfold ConfigInForce; decide
  count_bounded := by decide
  fault_kind := by decide
  banks_wf := by decide

theorem test_inv_opened : MachineInv (opened 2#9) where
  swap_waits := by decide
  stop_waits := by decide
  gate_streams := by decide
  streaming_gated := by decide
  active_written := fun h => absurd h (by decide)
  shadow_written := fun h => bankHolds_of_check (by revert h; decide)
  waitSwap_command := by decide
  waitStop_command := by decide
  waitStop_requested := by decide
  swapped_update := fun h h' => bankHolds_of_check (by revert h h'; decide)
  swapped_zero := fun h h' => bankHolds_of_check (by revert h h'; decide)
  stopped_low := by decide
  config_in_force := by unfold ConfigInForce; decide
  count_bounded := by decide
  fault_kind := by decide
  banks_wf := by decide

theorem test_inv_streaming : MachineInv (streaming 0#8) where
  swap_waits := by decide
  stop_waits := by decide
  gate_streams := by decide
  streaming_gated := by decide
  active_written := fun _ => ⟨duty0 1#8, bankHolds_of_check (by decide)⟩
  shadow_written := fun h => bankHolds_of_check (by revert h; decide)
  waitSwap_command := by decide
  waitStop_command := by decide
  waitStop_requested := by decide
  swapped_update := fun h h' => bankHolds_of_check (by revert h h'; decide)
  swapped_zero := fun h h' => bankHolds_of_check (by revert h h'; decide)
  stopped_low := by decide
  config_in_force := by unfold ConfigInForce; decide
  count_bounded := by decide
  fault_kind := by decide
  banks_wf := by decide

theorem test_inv_streaming_last : MachineInv (streaming 1#8) where
  swap_waits := by decide
  stop_waits := by decide
  gate_streams := by decide
  streaming_gated := by decide
  active_written := fun _ => ⟨duty0 1#8, bankHolds_of_check (by decide)⟩
  shadow_written := fun h => bankHolds_of_check (by revert h; decide)
  waitSwap_command := by decide
  waitStop_command := by decide
  waitStop_requested := by decide
  swapped_update := fun h h' => bankHolds_of_check (by revert h h'; decide)
  swapped_zero := fun h h' => bankHolds_of_check (by revert h h'; decide)
  stopped_low := by decide
  config_in_force := by unfold ConfigInForce; decide
  count_bounded := by decide
  fault_kind := by decide
  banks_wf := by decide

theorem test_inv_swapping : MachineInv (swapping 0#8) where
  swap_waits := by decide
  stop_waits := by decide
  gate_streams := by decide
  streaming_gated := by decide
  active_written := fun _ => ⟨duty0 1#8, bankHolds_of_check (by decide)⟩
  shadow_written := fun h => bankHolds_of_check (by revert h; decide)
  waitSwap_command := by decide
  waitStop_command := by decide
  waitStop_requested := by decide
  swapped_update := fun h h' => bankHolds_of_check (by revert h h'; decide)
  swapped_zero := fun h h' => bankHolds_of_check (by revert h h'; decide)
  stopped_low := by decide
  config_in_force := by unfold ConfigInForce; decide
  count_bounded := by decide
  fault_kind := by decide
  banks_wf := by decide

theorem test_inv_swapping_last : MachineInv (swapping 1#8) where
  swap_waits := by decide
  stop_waits := by decide
  gate_streams := by decide
  streaming_gated := by decide
  active_written := fun _ => ⟨duty0 1#8, bankHolds_of_check (by decide)⟩
  shadow_written := fun h => bankHolds_of_check (by revert h; decide)
  waitSwap_command := by decide
  waitStop_command := by decide
  waitStop_requested := by decide
  swapped_update := fun h h' => bankHolds_of_check (by revert h h'; decide)
  swapped_zero := fun h h' => bankHolds_of_check (by revert h h'; decide)
  stopped_low := by decide
  config_in_force := by unfold ConfigInForce; decide
  count_bounded := by decide
  fault_kind := by decide
  banks_wf := by decide

theorem test_inv_swapped : MachineInv swapped where
  swap_waits := by decide
  stop_waits := by decide
  gate_streams := by decide
  streaming_gated := by decide
  active_written := fun _ => ⟨duty0 2#8, bankHolds_of_check (by decide)⟩
  shadow_written := fun h => bankHolds_of_check (by revert h; decide)
  waitSwap_command := by decide
  waitStop_command := by decide
  waitStop_requested := by decide
  swapped_update := fun h h' => bankHolds_of_check (by revert h h'; decide)
  swapped_zero := fun h h' => bankHolds_of_check (by revert h h'; decide)
  stopped_low := by decide
  config_in_force := by unfold ConfigInForce; decide
  count_bounded := by decide
  fault_kind := by decide
  banks_wf := by decide

theorem test_inv_closing : MachineInv (closing 0#8) where
  swap_waits := by decide
  stop_waits := by decide
  gate_streams := by decide
  streaming_gated := by decide
  active_written := fun _ => ⟨duty0 1#8, bankHolds_of_check (by decide)⟩
  shadow_written := fun h => bankHolds_of_check (by revert h; decide)
  waitSwap_command := by decide
  waitStop_command := by decide
  waitStop_requested := by decide
  swapped_update := fun h h' => bankHolds_of_check (by revert h h'; decide)
  swapped_zero := fun h h' => bankHolds_of_check (by revert h h'; decide)
  stopped_low := by decide
  config_in_force := by unfold ConfigInForce; decide
  count_bounded := by decide
  fault_kind := by decide
  banks_wf := by decide

theorem test_inv_closing_last : MachineInv (closing 1#8) where
  swap_waits := by decide
  stop_waits := by decide
  gate_streams := by decide
  streaming_gated := by decide
  active_written := fun _ => ⟨duty0 1#8, bankHolds_of_check (by decide)⟩
  shadow_written := fun h => bankHolds_of_check (by revert h; decide)
  waitSwap_command := by decide
  waitStop_command := by decide
  waitStop_requested := by decide
  swapped_update := fun h h' => bankHolds_of_check (by revert h h'; decide)
  swapped_zero := fun h h' => bankHolds_of_check (by revert h h'; decide)
  stopped_low := by decide
  config_in_force := by unfold ConfigInForce; decide
  count_bounded := by decide
  fault_kind := by decide
  banks_wf := by decide

theorem test_inv_zeroing : MachineInv (zeroing 0#8) where
  swap_waits := by decide
  stop_waits := by decide
  gate_streams := by decide
  streaming_gated := by decide
  active_written := fun _ => ⟨Duty.zero, bankHolds_of_check (by decide)⟩
  shadow_written := fun h => bankHolds_of_check (by revert h; decide)
  waitSwap_command := by decide
  waitStop_command := by decide
  waitStop_requested := by decide
  swapped_update := fun h h' => bankHolds_of_check (by revert h h'; decide)
  swapped_zero := fun h h' => bankHolds_of_check (by revert h h'; decide)
  stopped_low := by decide
  config_in_force := by unfold ConfigInForce; decide
  count_bounded := by decide
  fault_kind := by decide
  banks_wf := by decide

theorem test_inv_stopped : MachineInv stopped where
  swap_waits := by decide
  stop_waits := by decide
  gate_streams := by decide
  streaming_gated := by decide
  active_written := fun _ => ⟨Duty.zero, bankHolds_of_check (by decide)⟩
  shadow_written := fun h => bankHolds_of_check (by revert h; decide)
  waitSwap_command := by decide
  waitStop_command := by decide
  waitStop_requested := by decide
  swapped_update := fun h h' => bankHolds_of_check (by revert h h'; decide)
  swapped_zero := fun h h' => bankHolds_of_check (by revert h h'; decide)
  stopped_low := by decide
  config_in_force := by unfold ConfigInForce; decide
  count_bounded := by decide
  fault_kind := by decide
  banks_wf := by decide

theorem test_inv_faulted : MachineInv faulted where
  swap_waits := by decide
  stop_waits := by decide
  gate_streams := by decide
  streaming_gated := by decide
  active_written := fun h => absurd h (by decide)
  shadow_written := fun h => bankHolds_of_check (by revert h; decide)
  waitSwap_command := by decide
  waitStop_command := by decide
  waitStop_requested := by decide
  swapped_update := fun h h' => bankHolds_of_check (by revert h h'; decide)
  swapped_zero := fun h h' => bankHolds_of_check (by revert h h'; decide)
  stopped_low := by decide
  config_in_force := by unfold ConfigInForce; decide
  count_bounded := by decide
  fault_kind := by decide
  banks_wf := by decide

theorem test_inv_faulted_close : MachineInv (executing 4#32 faulted) where
  swap_waits := by decide
  stop_waits := by decide
  gate_streams := by decide
  streaming_gated := by decide
  active_written := fun h => absurd h (by decide)
  shadow_written := fun h => bankHolds_of_check (by revert h; decide)
  waitSwap_command := by decide
  waitStop_command := by decide
  waitStop_requested := by decide
  swapped_update := fun h h' => bankHolds_of_check (by revert h h'; decide)
  swapped_zero := fun h h' => bankHolds_of_check (by revert h h'; decide)
  stopped_low := by decide
  config_in_force := by unfold ConfigInForce; decide
  count_bounded := by decide
  fault_kind := by decide
  banks_wf := by decide

theorem test_inv_open_exec : MachineInv (openArgs 3#32 60000#32 2#32 (executing 1#32 fresh)) where
  swap_waits := by decide
  stop_waits := by decide
  gate_streams := by decide
  streaming_gated := by decide
  active_written := fun h => absurd h (by decide)
  shadow_written := fun h => bankHolds_of_check (by revert h; decide)
  waitSwap_command := by decide
  waitStop_command := by decide
  waitStop_requested := by decide
  swapped_update := fun h h' => bankHolds_of_check (by revert h h'; decide)
  swapped_zero := fun h h' => bankHolds_of_check (by revert h h'; decide)
  stopped_low := by decide
  config_in_force := by unfold ConfigInForce; decide
  count_bounded := by decide
  fault_kind := by decide
  banks_wf := by decide

/-! ### Witnesses: for each obligation with hypotheses, a state and operands that meet them all -/

theorem test_witness_EncodeInvertsDecode :
    decode (.hostbus 0x821000000003#48) = some (.wr .b4 0x10#8 3#32) ∧
    decode (.cmd 0x00000004#32) = some .cmdClose := by decide

theorem test_witness_StepRunsTheHostsDescriptor : let s := turn .host (fetching 0x821000000003#48 fresh)
    nextAgent s = .host ∧ s.program = [.access 0x821000000003#48] ∧
    decodeHostbus 0x821000000003#48 = .ok (.wr .b4 0x10#8 3#32) := ⟨rfl, rfl, rfl⟩

theorem test_witness_StepRunsTheLatchedCommand : let s := turn .controller (executing 4#32 (streaming 0#8))
    nextAgent s = .controller ∧ s.phase = .exec ∧ decodeCmd s.lCmd = .ok .cmdClose := ⟨rfl, rfl, rfl⟩

theorem test_witness_MalformedDescriptorIsRefused : let s := turn .host (fetching 0x061000000000#48 fresh)
    nextAgent s = .host ∧ s.program = [.access 0x061000000000#48] ∧
    decodeHostbus 0x061000000000#48 = .error .reservedBits := ⟨rfl, rfl, rfl⟩

/-- An interleaving that runs to its end, and one that is refused. -/
theorem test_witness_EveryInterleavingIsARun :
    (∃ t, runAgents [.controller, .sequencer, .host] (streaming 0#8) = .next t) ∧
    runAgents [.sequencer, .host] (fetching 0x020400000001#48 fresh) =
      .refused (.malformedDescriptor .readData) := ⟨⟨_, rfl⟩, rfl⟩

/-- Narrow, wide and misaligned accesses up to the window's last byte; OUT known and unknown. -/
theorem test_witness_HostReadFollowsTheRule :
    ((0x3F#8).toNat < 0x40 ∧ ¬ (Width.b4.bytes = 4 ∧ (0x3F#8).toNat % 4 = 0)) ∧
    ((0x00#8).toNat < 0x40 ∧ ¬ (Width.b8.bytes = 4 ∧ (0x00#8).toNat % 4 = 0)) ∧
    fresh.outUnknown = false ∧ { fresh with outUnknown := true }.outUnknown = true := by decide

theorem test_witness_UnknownOutReadsAreAnyBytes :
    let s := { faulted with outUnknown := true, lines := ⟨[0xAB#8], 0⟩ }
    s.outUnknown = true ∧ s.lines.given = [0xAB#8] := by decide

theorem test_witness_MisalignedAccessGetsBusError :
    ((0x3D#8).toNat < 0x40 ∧ ¬ (Width.b4.bytes = 4 ∧ (0x3D#8).toNat % 4 = 0)) ∧
    ((0x3C#8).toNat < 0x40 ∧ ¬ (Width.b1.bytes = 4 ∧ (0x3C#8).toNat % 4 = 0)) := by decide

theorem test_witness_CmdWriteIsAcceptedWhenIdle : fresh.phase = .idle ∧ (streaming 0#8).phase = .idle := by decide

theorem test_witness_CmdWriteIsDroppedWhenBusy :
    (executing 1#32 fresh).phase ≠ .idle ∧ (swapping 0#8).phase ≠ .idle ∧ (closing 0#8).phase ≠ .idle := by decide

theorem test_witness_HostWriteFollowsTheRule :
    ((0x00#8).toNat < 0x40 ∧ ¬ (Width.b2.bytes = 4 ∧ (0x00#8).toNat % 4 = 0)) ∧
    fresh.phase = .idle ∧ (swapping 0#8).phase ≠ .idle ∧
    0x3C#8 ∈ [0x04#8, 0x08#8, 0x0C#8, 0x24#8, 0x28#8, 0x2C#8, 0x30#8, 0x34#8, 0x38#8, 0x3C#8] := by decide

theorem test_witness_ArgumentsReadBack : 0x10#8 ∈ [0x10#8, 0x14#8, 0x18#8, 0x1C#8, 0x20#8] ∧
    0x20#8 ∈ [0x10#8, 0x14#8, 0x18#8, 0x1C#8, 0x20#8] := by decide

theorem test_witness_AccessBeyondTheWindow : 0x40 ≤ (0x40#8).toNat ∧ 0x40 ≤ (0xFF#8).toNat := by decide

theorem test_witness_WaitRepeatsWhileBusy :
    let s := { swapping 0#8 with program := [.wait] }
    let u := { fresh with program := [.wait] }
    (s.program = [.wait] ∧ s.phase ≠ .idle) ∧ (u.program = [.wait] ∧ u.phase = .idle) := by decide

theorem test_witness_HostStepsTouchOnlyTheirRegisters :
    ∃ t, agentStep .host (fetching 0x820000000002#48 (opened 2#9)) = .next t := ⟨_, rfl⟩

theorem test_witness_ArgumentsDoNotReachTheCommandInFlight :
    ∃ t, agentStep .controller (executing 3#32 (streaming 1#8)) = .next t := ⟨_, rfl⟩

/-- A state for each clause of OPEN's rule. -/
theorem test_witness_OpenFollowsTheRule :
    faulted.devState = .faulted ∧ (opened 2#9).devState = .opened ∧ (streaming 0#8).devState = .streaming ∧
    (let s := openArgs 4#32 60000#32 2#32 fresh;
      s.devState = .unopened ∧ s.lPort ∉ s.platform.validPorts) ∧
    (let s := answering (some 7#32) (openArgs 3#32 9999999#32 256#32 fresh);
      s.devState = .unopened ∧ (1 ≤ s.lCount.toNat ∧ s.lCount.toNat ≤ 256) ∧
      (1 ≤ s.lRate.toNat ∧ s.lRate.toNat < s.platform.fMaxSampleHz) ∧ s.lPort ∈ s.platform.validPorts ∧
      deviceAnswer s = some 7#32) ∧
    (let s := { openArgs 3#32 1#32 1#32 fresh with devState := .closed };
      s.devState = .closed ∧ (1 ≤ s.lCount.toNat ∧ s.lCount.toNat ≤ 256) ∧
      (1 ≤ s.lRate.toNat ∧ s.lRate.toNat < s.platform.fMaxSampleHz) ∧ s.lPort ∈ s.platform.validPorts ∧
      deviceAnswer s = none) := by decide

theorem test_witness_StartFollowsTheRule :
    faulted.devState = .faulted ∧ fresh.devState = .unopened ∧ (streaming 0#8).devState = .streaming ∧
    { fresh with devState := .closed }.devState = .closed ∧
    ((opened 256#9).devState = .opened ∧ deviceAnswer (opened 256#9) = none) ∧
    ((answering (some 7#32) (opened 1#9)).devState = .opened ∧
      deviceAnswer (answering (some 7#32) (opened 1#9)) = some 7#32) := by decide

theorem test_witness_UpdateFollowsTheRule :
    faulted.devState = .faulted ∧ fresh.devState = .unopened ∧ (opened 2#9).devState = .opened ∧
    { fresh with devState := .closed }.devState = .closed ∧
    ((streaming 1#8).devState = .streaming ∧ deviceAnswer (streaming 1#8) = none) ∧
    ((answering (some 7#32) (streaming 0#8)).devState = .streaming ∧
      deviceAnswer (answering (some 7#32) (streaming 0#8)) = some 7#32) := by decide

theorem test_witness_CloseFollowsTheRule :
    { fresh with devState := .closed }.devState = .closed ∧ fresh.devState = .unopened ∧
    (streaming 1#8).devState = .streaming ∧
    ((opened 2#9).devState = .opened ∧ deviceAnswer (opened 2#9) = none) ∧
    ((answering (some 7#32) faulted).devState = .faulted ∧
      deviceAnswer (answering (some 7#32) faulted) = some 7#32) := by decide

theorem test_witness_FaultedCommandsReportTheFault :
    faulted.devState = .faulted ∧ Instr.cmdStart ∈ [Instr.cmdOpen, .cmdStart, .cmdUpdate] := by decide

/-- Reserved bits set, and the reserved opcodes at the ends of their ranges. -/
theorem test_witness_IllegalWordCompletes :
    ((executing 0x14#32 faulted).phase = .exec ∧ (0x14#32).extractLsb' 4 28 ≠ 0#28) ∧
    ¬ (1 ≤ ((0#32).extractLsb' 0 4).toNat ∧ ((0#32).extractLsb' 0 4).toNat ≤ 4) ∧
    ¬ (1 ≤ ((5#32).extractLsb' 0 4).toNat ∧ ((5#32).extractLsb' 0 4).toNat ≤ 4) := by decide

theorem test_witness_UpdateCompletesAfterTheSwap :
    ((swapping 1#8).phase = .waitSwap ∧ (swapping 1#8).swapPending = true) ∧
    (swapped.phase = .waitSwap ∧ swapped.swapPending = false) := by decide

theorem test_witness_CloseCompletesAfterTheStop :
    ((closing 1#8).phase = .waitStop ∧ (closing 1#8).gate = true) ∧
    (stopped.phase = .waitStop ∧ stopped.gate = false ∧ deviceAnswer stopped = none) ∧
    deviceAnswer (answering (some 0x77#32) stopped) = some 0x77#32 := by decide

theorem test_witness_CompletedUpdateIsActive :
    MachineInv swapped ∧ swapped.phase = .waitSwap ∧
    ∃ t, agentStep .controller swapped = .next t ∧ t.phase = .idle :=
  ⟨test_inv_swapped, rfl, _, rfl, rfl⟩

theorem test_witness_ClosedStreamLeavesTheLinesLow :
    MachineInv stopped ∧ stopped.phase = .waitStop ∧ stopped.gate = false ∧ deviceAnswer stopped = none :=
  ⟨test_inv_stopped, rfl, rfl, rfl⟩

/-- A configuration error, and a Device error. -/
theorem test_witness_FaultsArePrecise :
    (∃ t, exec .cmdOpen (openArgs 3#32 0#32 2#32 fresh) = .next t ∧ fresh.devState ≠ .faulted ∧
      t.devState = .faulted ∧ t.faultKind = .configurationError) ∧
    (∃ t, exec .cmdUpdate (answering (some 0x55#32) (streaming 1#8)) = .next t ∧
      (streaming 1#8).devState ≠ .faulted ∧ t.devState = .faulted ∧ t.faultKind = .hardwareError) :=
  ⟨⟨_, rfl, by decide, by decide, by decide⟩, ⟨_, rfl, by decide, by decide, by decide⟩⟩

/-- The Device consulted at each of the five steps, and not at a START turned away. -/
theorem test_witness_DeviceIsConsultedExactlyThere :
    look (fun t => t.device.count) (agentStep .controller (openArgs 3#32 60000#32 2#32 (executing 1#32 fresh))) =
      some 1 ∧
    look (fun t => t.device.count) (agentStep .controller (executing 2#32 (opened 2#9))) = some 1 ∧
    look (fun t => t.device.count) (agentStep .controller (executing 3#32 (streaming 0#8))) = some 1 ∧
    look (fun t => t.device.count) (agentStep .controller (executing 4#32 faulted)) = some 1 ∧
    look (fun t => t.device.count) (agentStep .controller stopped) = some 1 ∧
    look (fun t => t.device.count) (agentStep .controller (executing 2#32 fresh)) = some 0 := by decide

theorem test_witness_FaultedIsLeftOnlyByCloseOrReset :
    MachineInv (executing 4#32 faulted) ∧ (executing 4#32 faulted).devState = .faulted ∧
    (∃ t, agentStep .controller (executing 4#32 faulted) = .next t ∧ t.devState ≠ .faulted) ∧
    (∃ t, agentStep .reset (executing 4#32 faulted) = .next t ∧ t.devState ≠ .faulted) :=
  ⟨test_inv_faulted_close, rfl, ⟨_, rfl, by decide⟩, ⟨_, rfl, by decide⟩⟩

theorem test_witness_DeviceStateMovesAsTheTableSays :
    let s := openArgs 3#32 60000#32 2#32 (executing 1#32 fresh)
    MachineInv s ∧ ∃ t, agentStep .controller s = .next t ∧ Agent.controller ≠ .reset ∧ t.devState ≠ s.devState :=
  ⟨test_inv_open_exec, _, rfl, by decide, by decide⟩

/-- Inside the cycle, and the three kinds of wrap. -/
theorem test_witness_TickFollowsTheRule :
    ((streaming 0#8).gate = true ∧ ((0#8).toNat : Int) ≠ ((streaming 0#8).cfgN.toNat : Int) - 1) ∧
    (let s := swapping 1#8;
      s.gate = true ∧ (s.seqIdx.toNat : Int) = (s.cfgN.toNat : Int) - 1 ∧ s.swapPending = true) ∧
    (let s := zeroing 1#8;
      s.gate = true ∧ (s.seqIdx.toNat : Int) = (s.cfgN.toNat : Int) - 1 ∧ s.swapPending = false ∧
      s.stopReq = true) ∧
    (let s := streaming 1#8;
      s.gate = true ∧ (s.seqIdx.toNat : Int) = (s.cfgN.toNat : Int) - 1 ∧ s.swapPending = false ∧
      s.stopReq = false) := by decide

theorem test_witness_ClosedGateStopsTheSequencer : fresh.gate = false ∧ stopped.gate = false := by decide

theorem test_witness_SequencerWritesOnlyItsElements :
    ∃ t, agentStep .sequencer (zeroing 1#8) = .next t := ⟨_, rfl⟩

theorem test_witness_OnlyWrittenBytesAreDriven : MachineInv (streaming 1#8) ∧ (streaming 1#8).gate = true ∧
    ∃ t, agentStep .sequencer (streaming 1#8) = .next t := ⟨test_inv_streaming_last, rfl, _, rfl⟩

/-- The first and the last sample of the cycle. -/
theorem test_witness_UpdateSwapsAtTheEndOfTheCycle :
    (MachineInv (swapping 0#8) ∧ (swapping 0#8).phase = .waitSwap ∧ (swapping 0#8).swapPending = true) ∧
    (MachineInv (swapping 1#8) ∧ (swapping 1#8).phase = .waitSwap ∧ (swapping 1#8).swapPending = true) :=
  ⟨⟨test_inv_swapping, rfl, rfl⟩, ⟨test_inv_swapping_last, rfl, rfl⟩⟩

theorem test_witness_CloseStopsAfterOneZeroCycle :
    (MachineInv (closing 0#8) ∧ (closing 0#8).phase = .waitStop ∧ (closing 0#8).swapPending = true) ∧
    (MachineInv (closing 1#8) ∧ (closing 1#8).phase = .waitStop ∧ (closing 1#8).swapPending = true) :=
  ⟨⟨test_inv_closing, rfl, rfl⟩, ⟨test_inv_closing_last, rfl, rfl⟩⟩

/-- The last sample of the largest waveform. -/
theorem test_witness_SampleBitsFollowTheFormula : (255 : Nat) < 256 ∧ (encodeWave duty6 4)[3]? = some 0x68#8 := by decide

theorem test_witness_SamplesNeverGainABit :
    (encodeWave duty6 4)[0]? = some 0x6F#8 ∧ (encodeWave duty6 4)[0 + 1]? = some 0x6E#8 := by decide

/-- dc = 0; dc = N; dc = 255 at sample 255 of 256. -/
theorem test_witness_EncoderCornerCases :
    (duty6.channel 4 = 0#8 ∧ 0x6F#8 ∈ encodeWave duty6 4) ∧
    (4 ≤ (duty6.channel 3).toNat ∧ 255 ≤ (duty6.channel 6).toNat) ∧ duty6.channel 6 = 255#8 := by decide

theorem test_witness_LanesAreIndependent : (duty0 9#8).channel 1 = Duty.zero.channel 1 ∧ duty0 9#8 ≠ Duty.zero := by
  decide

theorem test_witness_EveryStepKeepsTheInvariant :
    MachineInv (closing 0#8) ∧ ∃ t, step (turn .controller (closing 0#8)) = .next t := ⟨test_inv_closing, _, rfl⟩

theorem test_witness_InvariantGivesTheSpecsClaims : MachineInv (streaming 0#8) := test_inv_streaming

/-- A cycle that reaches its wrap, with another agent between its ticks. -/
theorem test_witness_CyclesAreNeverTorn :
    MachineInv (swapping 0#8) ∧ (swapping 0#8).gate = true ∧ (swapping 0#8).seqIdx = 0#8 ∧
    cycleTrace [.sequencer, .controller, .sequencer, .sequencer] (swapping 0#8) = ([0x01#8, 0x00#8], true) :=
  ⟨test_inv_swapping, rfl, rfl, by decide⟩

/-- Turn and turn about. -/
def alternating (n : Nat) : Agent := if n % 2 = 0 then .controller else .sequencer

theorem test_alternating_fair : FairSchedule alternating ∧ NoReset alternating := by
  refine ⟨⟨fun n => ⟨2 * n, by omega, ?_⟩, fun n => ⟨2 * n + 1, by omega, ?_⟩⟩, fun n => ?_⟩
  · simp [alternating]
  · simp [alternating]
  · unfold alternating; split <;> decide

theorem test_witness_EveryCommandCompletes :
    MachineInv (closing 1#8) ∧ ProgramWellFormed (closing 1#8) ∧ FairSchedule alternating ∧ NoReset alternating ∧
    (closing 1#8).phase ≠ .idle :=
  ⟨test_inv_closing_last, by unfold ProgramWellFormed; decide, test_alternating_fair.1, test_alternating_fair.2,
    by decide⟩

/-- A successful OPEN, and a step that leaves the configuration. -/
theorem test_witness_ConfigurationChangesOnlyAtOpen : Agent.controller ≠ .reset ∧
    look State.cfgN (agentStep .controller (openArgs 3#32 60000#32 256#32 (executing 1#32 (fresh)))) =
      some 256#9 ∧
    look State.cfgN (agentStep .controller (executing 1#32 (opened 2#9))) = some 2#9 := by decide

/-- A swap, and a START after a stream that ended in bank 1. -/
theorem test_witness_ActiveBankChangesOnlyAtAWrap : Agent.sequencer ≠ .reset ∧
    (look State.activeSel (agentStep .sequencer (swapping 1#8)) = some true ∧ (swapping 1#8).activeSel = false) ∧
    (let s := { executing 2#32 (opened 2#9) with activeSel := true };
      look State.activeSel (agentStep .controller s) = some false ∧ s.activeSel = true) := by decide

/-- START opens the gate; the stopping wrap, a fault and a reset close it. -/
theorem test_witness_GateMovesOnlyAtStartStopAndFault :
    (look State.gate (agentStep .controller (executing 2#32 (opened 2#9))) = some true ∧
      (opened 2#9).gate = false) ∧
    (look State.gate (agentStep .sequencer (zeroing 1#8)) = some false ∧ (zeroing 1#8).gate = true) ∧
    look State.gate (agentStep .controller (answering (some 7#32) (executing 3#32 (streaming 0#8)))) = some false ∧
    look State.gate (agentStep .reset (streaming 0#8)) = some false := by decide

theorem test_witness_ActiveBankIsNotWrittenWhileStreaming :
    MachineInv (streaming 0#8) ∧ (streaming 0#8).gate = true ∧
    (∃ t, agentStep .controller (streaming 0#8) = .next t) ∧ Agent.controller ≠ .reset :=
  ⟨test_inv_streaming, rfl, ⟨_, rfl⟩, by decide⟩

/-- A tick moves OUT and clears OUT_UNKNOWN; a Device error sets it. -/
theorem test_witness_PortChangesOnlyAtATick : Agent.sequencer ≠ .reset ∧
    (look State.out (agentStep .sequencer (streaming 0#8)) = some 0x01#8 ∧ (streaming 0#8).out = 0x00#8) ∧
    look State.outUnknown (agentStep .sequencer { streaming 0#8 with outUnknown := true }) = some false ∧
    look State.outUnknown (agentStep .controller (answering (some 7#32) stopped)) = some true := by decide

/-- A CMD write while busy sets it (95 §3 P4, step 5), a read while busy does not, and a completion keeps it. -/
theorem test_witness_OverrunIsStickyUntilReset :
    look State.overrun (agentStep .host (fetching 0x820000000004#48 (swapping 0#8))) = some true ∧
    look State.overrun (agentStep .host (fetching 0x020400000000#48 (swapping 0#8))) = some false ∧
    (swapping 0#8).overrun = false ∧
    look State.overrun (agentStep .controller { stopped with overrun := true }) = some true := by decide

theorem test_witness_ErrorRecordsAreSticky :
    (look (fun t => (t.errCode, t.faultKind)) (agentStep .controller
      (answering (some 7#32) (executing 3#32 (streaming 0#8)))) = some (7#32, .hardwareError)) ∧
    (streaming 0#8).errCode = 0#32 ∧ (streaming 0#8).faultKind = .ok := by decide

theorem test_witness_ResultIsWrittenOnlyAtCompletion :
    look (fun t => (t.lastOp, t.phase)) (agentStep .controller swapped) = some (3#4, .idle) ∧
    swapped.lastOp = 2#4 ∧ swapped.phase ≠ .idle := by decide

end Sys2Proof.Tests
end

section
/-! PROOF. The invariant (10_state.md R40): what it is where no command waits, what each operation does to it, and that
every step keeps it. -/

namespace Sys2Proof.Safety

open Sys2Proof.Machine

/-- The invariant where nothing is asked of the Sequencer: what is left of it once the clauses about waits and about
pending swaps and stops are empty. It does not mention PHASE, so an operation that only completes keeps it. -/
structure AtRest (s : State) : Prop where
  no_swap : s.swapPending = false
  no_stop : s.stopReq = false
  gate_streams : s.gate = true → s.devState = .streaming ∧ s.seqIdx.toNat < s.cfgN.toNat
  streaming_gated : s.devState = .streaming → s.gate = true
  active_written : s.devState = .streaming → ∃ d, BankHolds s s.activeSel d
  config_in_force : s.devState = .opened ∨ s.devState = .streaming → ConfigInForce s
  count_bounded : s.cfgN.toNat ≤ 256
  fault_kind : s.devState = .faulted → s.faultKind = .configurationError ∨ s.faultKind = .hardwareError
  banks_wf : Memory.wf s.banks = true

theorem AtRest.machineInv {s : State} (h : AtRest s) (hp : s.phase = .idle ∨ s.phase = .exec) : MachineInv s where
  swap_waits hs := by simp [h.no_swap] at hs
  stop_waits hs := by simp [h.no_stop] at hs
  gate_streams := h.gate_streams
  streaming_gated hs := .inl (h.streaming_gated hs)
  active_written := h.active_written
  shadow_written hs := by simp [h.no_swap] at hs
  waitSwap_command hw := by simp [hw] at hp
  waitStop_command hw := by simp [hw] at hp
  waitStop_requested hw := by simp [hw] at hp
  swapped_update hw := by simp [hw] at hp
  swapped_zero hw := by simp [hw] at hp
  stopped_low hw := by simp [hw] at hp
  config_in_force := h.config_in_force
  count_bounded := h.count_bounded
  fault_kind := h.fault_kind
  banks_wf := h.banks_wf

/-- While no command waits, the invariant is the one at rest. -/
theorem MachineInv.atRest {s : State} (hi : MachineInv s) (hp : s.phase = .exec ∨ s.phase = .idle) : AtRest s := by
  obtain ⟨hswap, hstop, hgate⟩ := hi.quiet_without_wait hp
  exact { hi with no_swap := hswap, no_stop := hstop, streaming_gated := hgate }

/-- Once an UPDATE's swap is taken, nothing is left to ask of the Sequencer (41 R93). -/
theorem MachineInv.atRest_of_swapTaken {s : State} (hi : MachineInv s) (hp : s.phase = .waitSwap)
    (hs : s.swapPending = false) : AtRest s := by
  obtain ⟨-, -, hgate⟩ := hi.waitSwap_command hp
  have hstop : s.stopReq = false := Bool.eq_false_iff.2 fun e => by simpa [hp] using (hi.stop_waits e).1
  exact { hi with no_swap := hs, no_stop := hstop, streaming_gated := fun _ => hgate }

/-! ### Operations of the Controller -/

theorem AtRest.complete {s : State} (h : AtRest s) (r : ResultCode) : AtRest (complete r s) := { h with }

/-- A command that ends at rest ends in the invariant. -/
theorem AtRest.machineInv_complete {s : State} (h : AtRest s) (r : ResultCode) : MachineInv (Machine.complete r s) :=
  (h.complete r).machineInv (.inl rfl)

theorem AtRest.consulted {s : State} (h : AtRest s) : AtRest (consulted s) := { h with }

theorem AtRest.enterFaulted {s : State} (h : AtRest s) {k : ResultCode} (c : Option Word)
    (hk : k = .configurationError ∨ k = .hardwareError) : AtRest (enterFaulted k c s) where
  no_swap := rfl
  no_stop := rfl
  gate_streams hg := by simp at hg
  streaming_gated hs := by simp at hs
  active_written hs := by simp at hs
  config_in_force hs := by simp at hs
  count_bounded := h.count_bounded
  fault_kind _ := hk
  banks_wf := h.banks_wf

/-- OPEN's configuration was checked before it comes into force (41 R90). -/
theorem configInForce_configure {s : State} (hl : configLegal s = true) : ConfigInForce (configure s) := by
  obtain ⟨⟨h1, h2⟩, ⟨h3, h4⟩, h5⟩ := (configLegal_iff s).1 hl
  rw [← configLegal_count hl] at h1 h2
  exact ⟨h1, h2, h3, h4, h5⟩

theorem AtRest.configure {s : State} (h : AtRest s) (hs : s.devState ≠ .streaming) (hl : configLegal s = true) :
    AtRest (configure s) where
  no_swap := h.no_swap
  no_stop := h.no_stop
  gate_streams hg := absurd (h.gate_streams hg).1 hs
  streaming_gated hs := by simp at hs
  active_written hs := by simp at hs
  config_in_force _ := configInForce_configure hl
  count_bounded := (configInForce_configure hl).2.1
  fault_kind hs := by simp at hs
  banks_wf := h.banks_wf

/-- START's bank is written before the stream begins on it (41 R91). -/
theorem AtRest.beginStream {s : State} (h : AtRest s) (hs : s.devState = .opened) (d : Duty) :
    AtRest (beginStream (writeWave false d s)) where
  no_swap := rfl
  no_stop := rfl
  gate_streams _ := ⟨rfl, (h.config_in_force (.inl hs)).1⟩
  streaming_gated _ := rfl
  active_written _ := ⟨d, bankHolds_written h.count_bounded false d⟩
  config_in_force _ := h.config_in_force (.inl hs)
  count_bounded := h.count_bounded
  fault_kind hf := by simp at hf
  banks_wf := writeWave_wf false d h.banks_wf h.count_bounded

/-- A write to the shadow bank leaves the active one, and so the invariant at rest. -/
theorem AtRest.writeShadow {s : State} (h : AtRest s) (d : Duty) : AtRest (writeWave (!s.activeSel) d s) :=
  { h with
    active_written := fun hs =>
      have ⟨d', hd'⟩ := h.active_written hs
      ⟨d', hd'.write_other h.count_bounded (Bool.self_ne_not _) d⟩
    banks_wf := writeWave_wf _ d h.banks_wf h.count_bounded }

theorem AtRest.awaitSwap {s : State} (h : AtRest s) (hs : s.devState = .streaming) (hc : s.lCmd = 3#32)
    (hb : BankHolds s (!s.activeSel) s.lDc) : MachineInv (awaitSwap s) :=
  have hg : s.gate = true := h.streaming_gated hs
  { h with
    swap_waits := fun _ => ⟨.inl rfl, hg⟩
    stop_waits := fun e => absurd e (by simp [h.no_stop])
    streaming_gated := fun _ => .inl hg
    shadow_written := fun _ => hb
    waitSwap_command := fun _ => ⟨hc, hs, hg⟩
    waitStop_command := by simp
    waitStop_requested := by simp
    swapped_update := by simp
    swapped_zero := by simp
    stopped_low := by simp }

theorem AtRest.awaitStop {s : State} (h : AtRest s) (hs : s.devState = .streaming) (hc : s.lCmd = 4#32)
    (hb : BankHolds s (!s.activeSel) Duty.zero) : MachineInv (awaitStop s) :=
  have hg : s.gate = true := h.streaming_gated hs
  { h with
    swap_waits := fun _ => ⟨.inr rfl, hg⟩
    stop_waits := fun _ => ⟨rfl, hg⟩
    streaming_gated := fun _ => .inl hg
    shadow_written := fun _ => hb
    waitSwap_command := by simp
    waitStop_command := fun _ => ⟨hc, hs⟩
    waitStop_requested := by simp
    swapped_update := by simp
    swapped_zero := by simp
    stopped_low := by simp [hg] }

/-- Where the gate is closed, closing the device leaves it at rest: a CLOSE that waits included (41 R95). -/
theorem MachineInv.closeDevice {s : State} (hi : MachineInv s) (hg : s.gate = false) : AtRest (closeDevice s) where
  no_swap := Bool.eq_false_iff.2 fun e => by simpa [hg] using (hi.swap_waits e).2
  no_stop := Bool.eq_false_iff.2 fun e => by simpa [hg] using (hi.stop_waits e).2
  gate_streams e := by simp [hg] at e
  streaming_gated hs := by simp at hs
  active_written hs := by simp at hs
  config_in_force hs := by simp at hs
  count_bounded := hi.count_bounded
  fault_kind hs := by simp at hs
  banks_wf := hi.banks_wf

theorem AtRest.recordError {s : State} (h : AtRest s) (c : Word) : AtRest (recordError c s) := { h with }

theorem MachineInv.releasePort {s : State} (hi : MachineInv s) (hg : s.gate = false) : MachineInv (releasePort s) := by
  have h : AtRest (Machine.consulted (Machine.closeDevice s)) := (hi.closeDevice hg).consulted
  obtain ⟨-, e⟩ | ⟨c, -, e⟩ := releasePort_cases s <;> rw [e]
  · exact h.machineInv_complete _
  · exact (h.recordError c).machineInv_complete _

/-! ### Operations of the Host -/

/-- What an accepted command changes, the invariant at rest does not read (41 R82). -/
theorem AtRest.accept {s : State} (h : AtRest s) (v : Word) : AtRest (accept v s) := { h with }

/-! ### Operations of the Sequencer -/

/-- With the gate open, the invariant does not fix what is on the lines, and any index in force will do. -/
theorem MachineInv.drive {s : State} (hi : MachineInv s) (hg : s.gate = true) (v : Byte) {i : BitVec 8}
    (hx : i.toNat < s.cfgN.toNat) : MachineInv { s with out := v, outUnknown := false, seqIdx := i } :=
  { hi with
    gate_streams := fun _ => ⟨(hi.gate_streams hg).1, hx⟩
    stopped_low := fun _ e => by simp [hg] at e }

theorem pendingDuty_waitSwap {s : State} (hw : s.phase = .waitSwap) : pendingDuty s = s.lDc := by
  simp [pendingDuty, hw]

theorem pendingDuty_waitStop {s : State} (hw : s.phase = .waitStop) : pendingDuty s = Duty.zero := by
  simp [pendingDuty, hw]

/-- The bank swapped in holds the waveform it was to bring (10 R33). -/
theorem MachineInv.takeSwap {s : State} (hi : MachineInv s) (hp : s.swapPending = true) :
    MachineInv { s with activeSel := !s.activeSel, swapPending := false } := by
  have hb : BankHolds s (!s.activeSel) (pendingDuty s) := hi.shadow_written hp
  exact { hi with
    swap_waits := by simp
    active_written := fun _ => ⟨_, hb⟩
    shadow_written := by simp
    swapped_update := fun hw _ => pendingDuty_waitSwap hw ▸ hb
    swapped_zero := fun hw _ => pendingDuty_waitStop hw ▸ hb }

/-- The gate closes at the end of the all-zero cycle, with the lines low (10 R34, 41 R95). -/
theorem MachineInv.closeGate {s : State} (hi : MachineInv s) (hp : s.swapPending = false) (hr : s.stopReq = true)
    (hl : portLines s = some 0#8) : MachineInv { s with gate := false, stopReq := false } := by
  have hw : s.phase = .waitStop := (hi.stop_waits hr).1
  exact { hi with
    swap_waits := by simp [hp]
    stop_waits := by simp
    gate_streams := by simp
    streaming_gated := fun _ => .inr ⟨hw, rfl⟩
    waitSwap_command := by simp [hw]
    waitStop_requested := by simp
    stopped_low := fun _ _ => hl }

/-- The last sample of the all-zero cycle is 0 (40 R77). -/
theorem MachineInv.driven_zero {s : State} (hi : MachineInv s) (hg : s.gate = true) (hw : s.phase = .waitStop)
    (hp : s.swapPending = false) : drivenByte s = 0#8 := by
  rw [(hi.swapped_zero hw hp).driven (hi.gate_streams hg).2, sample_zero]

/-- Inside a cycle the next index is in force too: no wrap has been missed (42 R97). -/
theorem MachineInv.next_index {s : State} (hi : MachineInv s) (hg : s.gate = true) (hw : atWrap s = false) :
    (s.seqIdx + 1#8).toNat < s.cfgN.toNat := by
  have hx : s.seqIdx.toNat < s.cfgN.toNat := (hi.gate_streams hg).2
  have hn : s.seqIdx.toNat + 1 ≠ s.cfgN.toNat := by simpa [atWrap] using hw
  have hc : s.cfgN.toNat ≤ 256 := hi.count_bounded
  simp only [BitVec.toNat_add, BitVec.toNat_ofNat]
  omega

/-- Index 0 is in force while the gate is open. -/
theorem MachineInv.first_index {s : State} (hi : MachineInv s) (hg : s.gate = true) :
    (0#8).toNat < s.cfgN.toNat :=
  Nat.zero_lt_of_lt (hi.gate_streams hg).2

/-! ### Steps -/

theorem atRest_reset : AtRest State.reset where
  no_swap := rfl
  no_stop := rfl
  gate_streams hg := by simp [State.reset] at hg
  streaming_gated hs := by simp [State.reset] at hs
  active_written hs := by simp [State.reset] at hs
  config_in_force hs := by simp [State.reset] at hs
  count_bounded := by decide
  fault_kind hs := by simp [State.reset] at hs
  banks_wf := rfl

theorem AtRest.platformReset (s : State) : AtRest (platformReset s) :=
  { atRest_reset with config_in_force := by simp [Machine.platformReset, State.reset] }

/-- Every move of every agent keeps the invariant. -/
theorem MachineInv.move {a : Agent} {s t : State} (hi : MachineInv s) (h : Move a s t) : MachineInv t := by
  cases h with
  | hostQuiet | hostArgument | hostOverrun => exact { hi with }
  | hostAccept hp =>
    have h : AtRest s := hi.atRest (.inr hp)
    exact { (h.accept _).machineInv (.inr rfl) with }
  | controllerNone | gateClosed => exact hi
  | illegal hp | rereport hp | wrongState hp | notStreaming hp | closesNothing hp =>
    exact (hi.atRest (.inl hp)).machineInv_complete _
  | badConfig hp =>
    exact ((hi.atRest (.inl hp)).enterFaulted none (.inl rfl)).machineInv_complete _
  | deviceError c hp =>
    exact ((hi.atRest (.inl hp)).consulted.enterFaulted (some c) (.inr rfl)).machineInv_complete _
  | opens hp hs _ hl =>
    have hs' : s.devState ≠ .streaming := by rcases hs with e | e <;> simp [e]
    exact ((hi.atRest (.inl hp)).consulted.configure hs' hl).machineInv_complete _
  | starts hp hs =>
    exact ((hi.atRest (.inl hp)).consulted.beginStream hs s.lDc).machineInv_complete _
  | updates hp hs hc =>
    have h : AtRest (consulted s) := (hi.atRest (.inl hp)).consulted
    exact (h.writeShadow s.lDc).awaitSwap hs hc (bankHolds_written h.count_bounded _ _)
  | closesStream hp hs hc =>
    have h : AtRest s := hi.atRest (.inl hp)
    exact (h.writeShadow Duty.zero).awaitStop hs hc (bankHolds_written h.count_bounded _ _)
  | releases _ hs =>
    have hs' : s.devState ≠ .streaming := by rcases hs with e | e <;> simp [e]
    exact hi.releasePort (hi.quiet_outside_streaming hs').1
  | updateDone hp hs => exact (hi.atRest_of_swapTaken hp hs).machineInv_complete _
  | closeDone _ hg => exact hi.releasePort hg
  | ticks hg hw => exact hi.drive hg _ (hi.next_index hg hw)
  | swaps hg _ hp => exact (hi.drive hg (drivenByte s) (hi.first_index hg)).takeSwap hp
  | stops hg _ hp hr =>
    have hl : drivenByte s = 0#8 := hi.driven_zero hg (hi.stop_waits hr).1 hp
    exact (hi.drive hg (drivenByte s) (hi.first_index hg)).closeGate hp hr (congrArg some hl)
  | repeats hg => exact hi.drive hg _ (hi.first_index hg)
  | resets => exact (AtRest.platformReset s).machineInv (.inl rfl)

end Sys2Proof.Safety

namespace Sys2Proof.Proofs

open Sys2Proof.Machine Sys2Proof.Safety

/-- Settles O49: the choice of who moves touches nothing the invariant reads, and every move keeps it. -/
theorem everyStepKeepsTheInvariant : Obligations.EveryStepKeepsTheInvariant := by
  intro s t hi hstep
  have hc : MachineInv (chosen s) := { hi with }
  exact hc.move (agentStep_move hstep)

/-- Settles O48: the state after reset is at rest, with no command in flight. -/
theorem resetMeetsTheInvariant : Obligations.ResetMeetsTheInvariant :=
  atRest_reset.machineInv (.inl rfl)

end Sys2Proof.Proofs
end

section
/-! PROOF. What a host read returns after a host write, and the fields of STATUS (10_state.md R20 to R27). -/

namespace Sys2Proof.Machine

/-! ### The packing of duty cycles -/

/-- A word is its four bytes. -/
theorem wordByte_append (v : Word) : wordByte v 3 ++ wordByte v 2 ++ wordByte v 1 ++ wordByte v 0 = v := by
  unfold wordByte
  rw [BitVec.extractLsb'_append_extractLsb'_eq_extractLsb' (by rfl : 8 * 3 = 8 * 2 + 8),
    BitVec.extractLsb'_append_extractLsb'_eq_extractLsb' (by rfl : 8 * 2 = 8 * 1 + 8),
    BitVec.extractLsb'_append_extractLsb'_eq_extractLsb' (by rfl : 8 * 1 = 8 * 0 + 8)]
  exact BitVec.extractLsb'_eq_self

@[simp] theorem Duty.lo_withLo (d : Duty) (v : Word) : (d.withLo v).lo = v := wordByte_append v

@[simp] theorem Duty.hi_withHi (d : Duty) (v : Word) : (d.withHi v).hi = v := wordByte_append v

/-! ### Aligned accesses of 4 bytes -/

/-- An aligned access at a register's offset reaches the register. -/
@[simp] theorem access_regOffset (r : Reg) (perform : Reg → State → State) (s : State) :
    access .b4 (regOffset r) perform s = perform r s := by
  cases r <;> rfl

theorem exec_rd_reg (r : Reg) (s : State) : exec (.rd .b4 (regOffset r)) s = .next (performRead r s) :=
  congrArg _ (access_regOffset r performRead s)

theorem exec_wr_reg (r : Reg) (v : Word) (s : State) :
    exec (.wr .b4 (regOffset r) v) s = .next (performWrite v r s) :=
  congrArg _ (access_regOffset r (performWrite v) s)

/-- What a write of an argument register leaves is what a read of it returns. -/
theorem readReg_performWrite {r : Reg} (hr : r ∈ [Reg.portId, .sampleRate, .sampleCount, .dcLo, .dcHi]) (v : Word)
    (s : State) : readReg r (performWrite v r s) = v := by
  simp only [List.mem_cons, List.not_mem_nil, or_false] at hr
  obtain rfl | rfl | rfl | rfl | rfl := hr
  · rfl
  · rfl
  · rfl
  · exact Duty.lo_withLo s.argDc v
  · exact Duty.hi_withHi s.argDc v

/-! ### The fields of STATUS -/

/-- The fields of STATUS that are codes, and its reserved bits. -/
theorem statusWord_fields (s : State) :
    (statusWord s).extractLsb' 0 3 = s.devState.code ∧ (statusWord s).extractLsb' 8 4 = s.result.code ∧
      (statusWord s).extractLsb' 12 4 = s.lastOp ∧ (statusWord s).extractLsb' 18 14 = 0#14 := by
  unfold statusWord
  refine ⟨?_, ?_, ?_, ?_⟩ <;>
  · change BitVec.extractLsb' (n := 14 + 1 + 1 + 4 + 4 + 1 + 1 + 1 + 1 + 1 + 3) _ _ _ = _
    simp (disch := omega) only [BitVec.extractLsb'_append_eq_of_le, BitVec.extractLsb'_append_eq_of_add_le,
      Nat.reduceSub, BitVec.extractLsb'_eq_self]

/-- The fields of STATUS that are single bits. -/
theorem statusWord_bits (s : State) :
    (statusWord s).getLsbD 3 = s.busy ∧ (statusWord s).getLsbD 4 = s.swapPending ∧
      (statusWord s).getLsbD 5 = s.activeSel ∧ (statusWord s).getLsbD 6 = s.gate ∧
      (statusWord s).getLsbD 7 = s.overrun ∧ (statusWord s).getLsbD 16 = s.stopReq ∧
      (statusWord s).getLsbD 17 = s.outUnknown := by
  unfold statusWord
  refine ⟨?_, ?_, ?_, ?_, ?_, ?_, ?_⟩ <;>
  · change BitVec.getLsbD (w := 14 + 1 + 1 + 4 + 4 + 1 + 1 + 1 + 1 + 1 + 3) _ _ = _
    simp only [BitVec.getLsbD_append]
    simp

end Sys2Proof.Machine

namespace Sys2Proof.Proofs

open Sys2Proof.Machine Sys2Proof.Safety

/-- Settles O17: each of the five offsets is that of an argument register. -/
theorem argumentsReadBack : Obligations.ArgumentsReadBack := by
  intro s off v hoff
  have hreg : ∃ r ∈ [Reg.portId, .sampleRate, .sampleCount, .dcLo, .dcHi], off = regOffset r := by
    simpa [regOffset] using hoff
  obtain ⟨r, hr, rfl⟩ := hreg
  exact ⟨_, _, exec_wr_reg r v s, exec_rd_reg r _, congrArg _ (readReg_performWrite hr v s)⟩

/-- Settles O11: the draw given is what `lineDraw` reads, and `advance` drops it. -/
theorem unknownOutReadsAreAnyBytes : Obligations.UnknownOutReadsAreAnyBytes := by
  intro s b rest hunknown hgiven
  have hdraw : lineDraw s = b := by simp [lineDraw, Supply.peek, hgiven]
  have hadv : s.lines.advance = ⟨rest, s.lines.count + 1⟩ := by simp [Supply.advance, hgiven]
  rw [← hadv, ← hdraw]
  refine (exec_rd_reg .out s).trans ?_
  simp [performRead, takeDraw, readReg, respond, hunknown]

/-- Settles O12: STATUS read is `statusWord`, and its fields are the elements. -/
theorem statusShowsTheState : Obligations.StatusShowsTheState := by
  refine ⟨fun s => ?_, by decide, fun s v => rfl⟩
  obtain ⟨hdev, hresult, hop, hreserved⟩ := statusWord_fields s
  obtain ⟨hbusy, hswap, hactive, hgate, hoverrun, hstop, hunknown⟩ := statusWord_bits s
  exact ⟨statusWord s, rfl, hdev, hbusy, hswap, hactive, hgate, hoverrun, hresult, hop, hstop, hunknown, hreserved⟩

/-- Settles O47: both parts are the definition of the platform reset, element by element. -/
theorem resetLeavesTheTablesValues : Obligations.ResetLeavesTheTablesValues :=
  fun _ => ⟨rfl, rfl⟩

end Sys2Proof.Proofs
end

section
/-! PROOF. The Controller's step and the argument registers (10_state.md R36): each of its operations does the same
whatever they hold, and leaves them. -/

namespace Sys2Proof.Machine

/-- The same state with other values in the argument registers. -/
def withArgs (port rate count : Word) (dc : Duty) (s : State) : State :=
  { s with argPort := port, argRate := rate, argCount := count, argDc := dc }

section
variable (port rate count : Word) (dc : Duty) (s : State)

@[simp] theorem withArgs_devState : (withArgs port rate count dc s).devState = s.devState := rfl
@[simp] theorem withArgs_phase : (withArgs port rate count dc s).phase = s.phase := rfl
@[simp] theorem withArgs_swapPending : (withArgs port rate count dc s).swapPending = s.swapPending := rfl
@[simp] theorem withArgs_gate : (withArgs port rate count dc s).gate = s.gate := rfl
@[simp] theorem withArgs_lCmd : (withArgs port rate count dc s).lCmd = s.lCmd := rfl

@[simp] theorem deviceAnswer_withArgs : deviceAnswer (withArgs port rate count dc s) = deviceAnswer s := rfl

@[simp] theorem configLegal_withArgs : configLegal (withArgs port rate count dc s) = configLegal s := rfl

theorem releasePort_withArgs :
    releasePort (withArgs port rate count dc s) = withArgs port rate count dc (releasePort s) := by
  unfold releasePort
  rw [deviceAnswer_withArgs]
  cases deviceAnswer s <;> rfl

theorem openExec_withArgs :
    openExec (withArgs port rate count dc s) = withArgs port rate count dc (openExec s) := by
  unfold openExec
  rw [withArgs_devState, configLegal_withArgs, deviceAnswer_withArgs]
  split_ifs
  · cases deviceAnswer s <;> rfl
  · rfl
  · rfl

theorem startExec_withArgs :
    startExec (withArgs port rate count dc s) = withArgs port rate count dc (startExec s) := by
  unfold startExec
  rw [withArgs_devState, deviceAnswer_withArgs]
  split_ifs
  · cases deviceAnswer s <;> rfl
  · rfl

theorem updateExec_withArgs :
    updateExec (withArgs port rate count dc s) = withArgs port rate count dc (updateExec s) := by
  unfold updateExec
  rw [withArgs_devState, deviceAnswer_withArgs]
  split_ifs
  · cases deviceAnswer s <;> rfl
  · rfl

theorem closeExec_withArgs :
    closeExec (withArgs port rate count dc s) = withArgs port rate count dc (closeExec s) := by
  unfold closeExec
  rw [withArgs_devState]
  cases s.devState with
  | closed | unopened | streaming => rfl
  | opened | faulted => exact releasePort_withArgs port rate count dc s

variable {port rate count dc s}

theorem unlessFaulted_withArgs {run : State → State}
    (hrun : run (withArgs port rate count dc s) = withArgs port rate count dc (run s)) :
    unlessFaulted run (withArgs port rate count dc s) = withArgs port rate count dc (unlessFaulted run s) := by
  unfold unlessFaulted
  rw [withArgs_devState, hrun]
  split_ifs <;> rfl

theorem executeStep_withArgs {t : State} (h : executeStep s = .next t) :
    executeStep (withArgs port rate count dc s) = .next (withArgs port rate count dc t) := by
  unfold executeStep at h ⊢
  rw [withArgs_lCmd]
  cases hd : decodeCmd s.lCmd with
  | error e => rw [hd] at h; cases h; rfl
  | ok i =>
    rw [hd] at h
    obtain ⟨rfl, -⟩ | ⟨rfl, -⟩ | ⟨rfl, -⟩ | ⟨rfl, -⟩ := decodeCmd_ok hd <;> cases h
    · exact congrArg _ (unlessFaulted_withArgs (openExec_withArgs ..))
    · exact congrArg _ (unlessFaulted_withArgs (startExec_withArgs ..))
    · exact congrArg _ (unlessFaulted_withArgs (updateExec_withArgs ..))
    · exact congrArg _ (closeExec_withArgs ..)

theorem controllerStep_withArgs {t : State} (h : controllerStep s = .next t) :
    controllerStep (withArgs port rate count dc s) = .next (withArgs port rate count dc t) := by
  unfold controllerStep at h ⊢
  rw [withArgs_phase]
  cases hp : s.phase with
  | idle => rw [hp] at h; cases h; rfl
  | exec => rw [hp] at h; exact executeStep_withArgs h
  | waitSwap =>
    simp only [hp] at h ⊢
    rw [withArgs_swapPending]
    split at h <;> cases h
    next hs => rw [if_pos hs]
    next hs => rw [if_neg hs]; rfl
  | waitStop =>
    simp only [hp] at h ⊢
    rw [withArgs_gate]
    split at h <;> cases h
    next hg => rw [if_pos hg]
    next hg => rw [if_neg hg]; exact congrArg _ (releasePort_withArgs ..)

end

end Sys2Proof.Machine

namespace Sys2Proof.Proofs

open Sys2Proof.Machine Sys2Proof.Safety

/-- Settles O21: the Controller's step commutes with `withArgs`. -/
theorem argumentsDoNotReachTheCommandInFlight : Obligations.ArgumentsDoNotReachTheCommandInFlight :=
  fun _ _ _ _ _ _ h => controllerStep_withArgs h

end Sys2Proof.Proofs
end

section
/-! PROOF. The six claims of R40, and which step changes which element (10_state.md R21, R22, R28, R30, R33, R35, R37,
R38): each by the cases of `agentStep_move`. -/

namespace Sys2Proof.Machine

/-- Releasing the port leaves all but the device state, the error record and the completion (41 R94, R95). -/
theorem releasePort_frame (s : State) :
    releasePort s = { s with
      devState := .closed, phase := .idle, result := (releasePort s).result, lastOp := opField s.lCmd,
      outUnknown := (releasePort s).outUnknown, errCode := (releasePort s).errCode, device := s.device.advance } := by
  obtain ⟨-, e⟩ | ⟨c, -, e⟩ := releasePort_cases s <;> rw [e] <;> rfl

@[simp] theorem releasePort_activeSel (s : State) : (releasePort s).activeSel = s.activeSel := by
  rw [releasePort_frame]

@[simp] theorem releasePort_gate (s : State) : (releasePort s).gate = s.gate := by
  rw [releasePort_frame]

@[simp] theorem releasePort_overrun (s : State) : (releasePort s).overrun = s.overrun := by
  rw [releasePort_frame]

@[simp] theorem releasePort_faultKind (s : State) : (releasePort s).faultKind = s.faultKind := by
  rw [releasePort_frame]

@[simp] theorem releasePort_cfgPort (s : State) : (releasePort s).cfgPort = s.cfgPort := by
  rw [releasePort_frame]

@[simp] theorem releasePort_cfgRate (s : State) : (releasePort s).cfgRate = s.cfgRate := by
  rw [releasePort_frame]

@[simp] theorem releasePort_cfgN (s : State) : (releasePort s).cfgN = s.cfgN := by
  rw [releasePort_frame]

@[simp] theorem releasePort_out (s : State) : (releasePort s).out = s.out := by
  rw [releasePort_frame]

/-- Releasing the port writes the error records only when the Device answers an error, which it reports. -/
theorem releasePort_error (s : State) :
    ((releasePort s).errCode = s.errCode ∧ (releasePort s).outUnknown = s.outUnknown) ∨
      ((releasePort s).outUnknown = true ∧ (releasePort s).result = .hardwareError ∧
        deviceAnswer s = some (releasePort s).errCode) := by
  obtain ⟨-, e⟩ | ⟨c, hc, e⟩ := releasePort_cases s <;> rw [e]
  · exact .inl ⟨rfl, rfl⟩
  · exact .inr ⟨rfl, rfl, hc⟩

theorem atWrap_iff (s : State) : atWrap s = true ↔ s.seqIdx.toNat + 1 = s.cfgN.toNat :=
  decide_eq_true_iff

end Sys2Proof.Machine

namespace Sys2Proof.Safety

open Sys2Proof.Machine

/-- A bank that holds a waveform's samples at the indices in force holds the waveform. -/
theorem BankHolds.bankWave {s : State} {b : Bool} {d : Duty} (h : BankHolds s b d) :
    bankWave s b = encodeWave d s.cfgN.toNat :=
  List.map_congr_left fun i hi => by simp [bankByte, h i (List.mem_range.1 hi)]

theorem MachineInv.specInvariant {s : State} (hi : MachineInv s) : SpecInvariant s where
  swap_waits := hi.swap_waits
  stop_waits := hi.stop_waits
  gate_streams hg :=
    have ⟨hs, hx⟩ := hi.gate_streams hg
    ⟨hs, Nat.one_le_of_lt hx, hi.count_bounded, hx⟩
  streaming_gated := hi.streaming_gated
  active_holds hs _ :=
    have ⟨d, hd⟩ := hi.active_written hs
    ⟨d, hd.bankWave⟩
  wait_command := by
    constructor
    · intro hp; rw [(hi.waitSwap_command hp).1]; rfl
    · intro hp; rw [(hi.waitStop_command hp).1]; rfl

end Sys2Proof.Safety

namespace Sys2Proof.Proofs

open Sys2Proof.Machine Sys2Proof.Safety

/-- Settles O50: each claim is a clause of the invariant, I5 by reading the bank it says was written. -/
theorem invariantGivesTheSpecsClaims : Obligations.InvariantGivesTheSpecsClaims :=
  fun _ hi => hi.specInvariant

/-- Settles O53: of the moves only `opens` writes the configuration, which `configLegal` has checked. -/
theorem configurationChangesOnlyAtOpen : Obligations.ConfigurationChangesOnlyAtOpen := by
  intro a s t h ha
  cases agentStep_move h with
  | resets => exact absurd rfl ha
  | opens hp _ hc hl =>
    have hin : ConfigInForce (configure (consulted s)) := configInForce_configure hl
    exact .inr ⟨rfl, hp, hc, rfl, rfl, hin, rfl, rfl, configLegal_count hl⟩
  | releases | closeDone => exact .inl ⟨releasePort_cfgPort s, releasePort_cfgRate s, releasePort_cfgN s⟩
  | _ => exact .inl ⟨rfl, rfl, rfl⟩

/-- Settles O54: of the moves only `swaps` and `starts` write the selection. -/
theorem activeBankChangesOnlyAtAWrap : Obligations.ActiveBankChangesOnlyAtAWrap := by
  intro a s t h ha hne
  cases agentStep_move h with
  | resets => exact absurd rfl ha
  | swaps hg hw hp => exact .inl ⟨rfl, hg, (atWrap_iff s).1 hw, hp, rfl⟩
  | starts hp _ hc => exact .inr ⟨rfl, hp, hc, rfl, rfl⟩
  | releases | closeDone => exact absurd (releasePort_activeSel s) hne
  | _ => exact absurd rfl hne

/-- Settles O55: `starts` opens the gate; `stops` and the two fault entries close it. -/
theorem gateMovesOnlyAtStartStopAndFault : Obligations.GateMovesOnlyAtStartStopAndFault := by
  intro a s t h
  have unmoved (hg : t.gate = s.gate) {P Q : Prop} :
      (s.gate = false → t.gate = true → P) ∧ (s.gate = true → t.gate = false → Q) := by
    rw [hg]; cases s.gate <;> simp
  cases agentStep_move h with
  | resets => exact ⟨fun _ e => Bool.noConfusion e, fun _ _ => .inl rfl⟩
  | starts hp hs hc => exact ⟨fun _ _ => ⟨rfl, hp, hc, hs, rfl⟩, fun _ e => Bool.noConfusion e⟩
  | stops hg hw hp hr =>
    exact ⟨fun _ e => Bool.noConfusion e, fun _ _ => .inr (.inl ⟨rfl, (atWrap_iff s).1 hw, hp, hr⟩)⟩
  | badConfig hp hs =>
    have hs' : s.devState ≠ .faulted := by rcases hs with e | e <;> simp [e]
    exact ⟨fun _ e => Bool.noConfusion e, fun _ _ => .inr (.inr ⟨rfl, hs', rfl⟩)⟩
  | deviceError c _ _ hc =>
    have hs' : s.devState ≠ .faulted := by
      rcases hc with ⟨-, e | e, -⟩ | ⟨-, e⟩ | ⟨-, e⟩ <;> simp [e]
    exact ⟨fun _ e => Bool.noConfusion e, fun _ _ => .inr (.inr ⟨rfl, hs', rfl⟩)⟩
  | releases | closeDone => exact unmoved (releasePort_gate s)
  | _ => exact unmoved rfl

/-- Settles O57: the four kinds of tick write the port; Device errors make it unknown. -/
theorem portChangesOnlyAtATick : Obligations.PortChangesOnlyAtATick := by
  intro a s t h ha
  have unmoved (ho : t.out = s.out) (hu : t.outUnknown = s.outUnknown) {P Q R : Prop} :
      (t.out ≠ s.out → P) ∧ (s.outUnknown = true → t.outUnknown = false → Q) ∧
        (s.outUnknown = false → t.outUnknown = true → R) := by
    rw [ho, hu]; cases s.outUnknown <;> simp
  cases agentStep_move h with
  | resets => exact absurd rfl ha
  | ticks hg | swaps hg | stops hg | repeats hg =>
    exact ⟨fun _ => ⟨rfl, hg⟩, fun _ _ => ⟨rfl, hg⟩, fun _ e => Bool.noConfusion e⟩
  | deviceError c _ hans =>
    exact ⟨absurd rfl, fun _ e => Bool.noConfusion e, fun _ _ => ⟨rfl, rfl, hans⟩⟩
  | releases | closeDone =>
    obtain ⟨-, hu⟩ | ⟨hu, hr, hans⟩ := releasePort_error s
    · exact unmoved (releasePort_out s) hu
    · exact ⟨absurd (releasePort_out s), fun _ e => Bool.noConfusion (hu.symm.trans e),
        fun _ _ => ⟨rfl, hr, hans⟩⟩
  | _ => exact unmoved rfl rfl

/-- Settles O58: of the moves only `hostOverrun` writes OVERRUN. -/
theorem overrunIsStickyUntilReset : Obligations.OverrunIsStickyUntilReset := by
  intro a s t h
  have unmoved (ho : t.overrun = s.overrun) {P Q : Prop} :
      (s.overrun = true → P → t.overrun = true) ∧ (s.overrun = false → t.overrun = true → Q) := by
    rw [ho]; cases s.overrun <;> simp
  cases agentStep_move h with
  | resets => exact ⟨fun _ ha => absurd rfl ha, fun _ e => Bool.noConfusion e⟩
  | hostOverrun hp hs hd => exact ⟨fun _ _ => rfl, fun _ _ => ⟨rfl, hp, _, _, _, hs, hd⟩⟩
  | releases | closeDone => exact unmoved (releasePort_overrun s)
  | _ => exact unmoved rfl

/-- Settles O59: Device errors write ERR_CODE, the two fault entries FAULT_KIND. -/
theorem errorRecordsAreSticky : Obligations.ErrorRecordsAreSticky := by
  intro a s t h ha
  cases agentStep_move h with
  | resets => exact absurd rfl ha
  | badConfig => exact ⟨absurd rfl, fun _ => ⟨rfl, rfl, rfl, .inl rfl⟩⟩
  | deviceError c _ hans => exact ⟨fun _ => ⟨rfl, rfl, hans⟩, fun _ => ⟨rfl, rfl, rfl, .inr rfl⟩⟩
  | releases | closeDone =>
    refine ⟨fun hne => ?_, absurd (releasePort_faultKind s)⟩
    obtain ⟨he, -⟩ | ⟨-, hr, hans⟩ := releasePort_error s
    · exact absurd he hne
    · exact ⟨rfl, hr, hans⟩
  | _ => exact ⟨absurd rfl, absurd rfl⟩

end Sys2Proof.Proofs
end

section
/-! PROOF. Which step fetches and runs which instruction (20_memory.md R52), and the accesses that reach no register
(R42, R46). -/

namespace Sys2Proof.Machine

/-! ### Fetch -/

theorem hostStep_of_access {s : State} {d : Descriptor} {rest : List HostOp} (h : s.program = .access d :: rest) :
    hostStep s = hostAccess d (afterFetch rest s) := by
  unfold hostStep
  rw [h]

theorem hostAccess_of_decode {d : Descriptor} {i : Instr} (h : decodeHostbus d = .ok i) (s : State) :
    hostAccess d s = exec i s := by
  unfold hostAccess
  rw [h]

theorem controllerStep_of_exec {s : State} (h : s.phase = .exec) : controllerStep s = executeStep s := by
  unfold controllerStep
  rw [h]

theorem executeStep_of_decode {s : State} {i : Instr} (h : decodeCmd s.lCmd = .ok i) : executeStep s = exec i s := by
  unfold executeStep
  rw [h]

theorem step_of_nextAgent {s : State} {a : Agent} (h : nextAgent s = a) : step s = agentStep a (chosen s) := by
  rw [step, h]

/-! ### Accesses that reach no register -/

/-- In the window, any access but 4 bytes at a multiple of 4 gets BUS_ERROR (R46). -/
theorem access_misaligned {w : Width} {off : Byte} (hin : off.toNat < 0x40)
    (ha : ¬ (w.bytes = 4 ∧ off.toNat % 4 = 0)) (perform : Reg → State → State) (s : State) :
    access w off perform s = respond .busError s := by
  have hwindow : inWindow off = true := decide_eq_true hin
  have haligned : ¬ accessAligned w off = true := by simpa [accessAligned] using ha
  rw [access, if_pos hwindow, if_neg haligned]

/-- Beyond the window, the platform answers (R42). -/
theorem access_outside {w : Width} {off : Byte} (hout : 0x40 ≤ off.toNat) (perform : Reg → State → State)
    (s : State) : access w off perform s = accessOutside s := by
  have hwindow : ¬ inWindow off = true := by simpa [inWindow] using hout
  rw [access, if_neg hwindow]

end Sys2Proof.Machine

namespace Sys2Proof.Proofs

open Sys2Proof.Machine Sys2Proof.Safety

/-- Settles O5: the Host's turn is its fetch, its fetch the decoded descriptor. -/
theorem stepRunsTheHostsDescriptor : Obligations.StepRunsTheHostsDescriptor := by
  intro s d rest i hturn hprog hdec
  have hfetch : hostStep (chosen s) = hostAccess d (afterFetch rest (chosen s)) := hostStep_of_access hprog
  exact (step_of_nextAgent hturn).trans (hfetch.trans (hostAccess_of_decode hdec _))

/-- Settles O6: the Controller's turn in EXEC is its execute step, and that the decoded latch. -/
theorem stepRunsTheLatchedCommand : Obligations.StepRunsTheLatchedCommand := by
  intro s i hturn hphase hdec
  have hexec : controllerStep (chosen s) = executeStep (chosen s) := controllerStep_of_exec hphase
  exact (step_of_nextAgent hturn).trans (hexec.trans (executeStep_of_decode hdec))

/-- Settles O13: such an access is a BUS_ERROR response, whatever it was to perform. -/
theorem misalignedAccessGetsBusError : Obligations.MisalignedAccessGetsBusError :=
  fun s _ _ v hin ha =>
    ⟨congrArg _ (access_misaligned hin ha performRead s), congrArg _ (access_misaligned hin ha (performWrite v) s)⟩

/-- Settles O18: such an access is the platform's, whatever it was to perform. -/
theorem accessBeyondTheWindowTouchesNothing : Obligations.AccessBeyondTheWindowTouchesNothing :=
  fun s _ _ v hout =>
    ⟨congrArg _ (access_outside hout performRead s), congrArg _ (access_outside hout (performWrite v) s)⟩

/-- Settles O20: of the moves only the Host's four are its steps, and each writes within the list. -/
theorem hostStepsTouchOnlyTheirRegisters : Obligations.HostStepsTouchOnlyTheirRegisters := by
  intro s t h
  cases agentStep_move h with
  | hostQuiet | hostArgument | hostOverrun | hostAccept => rfl

end Sys2Proof.Proofs
end

section
/-! PROOF. The bank that is streamed and the cycles read from it (20_memory.md R53). -/

namespace Sys2Proof.Machine

@[simp] theorem releasePort_banks (s : State) : (releasePort s).banks = s.banks := by
  rw [releasePort_frame]

@[simp] theorem releasePort_seqIdx (s : State) : (releasePort s).seqIdx = s.seqIdx := by
  rw [releasePort_frame]

/-- A waveform written to the shadow bank leaves all 256 bytes of the active one (40 R81, R136). -/
theorem readCell_writeShadow {s : State} (d : Duty) {i : Nat} (hi : i < 256) (hn : s.cfgN.toNat ≤ 256) :
    readCell (writeWave (!s.activeSel) d s).banks (bankAddr s.activeSel i) =
      readCell s.banks (bankAddr s.activeSel i) := by
  rw [readCell_writeWave s _ _ d i hi hn, if_neg fun h => Bool.self_ne_not _ h.1]

/-- Sample k is the first of those from k on. -/
theorem encodeWave_drop (d : Duty) {n k : Nat} (hk : k < n) :
    (encodeWave d n).drop k = sample d k :: (encodeWave d n).drop (k + 1) := by
  rw [List.drop_eq_getElem_cons (by simpa using hk)]
  simp [encodeWave]

end Sys2Proof.Machine

namespace Sys2Proof.Safety

open Sys2Proof.Machine

/-! ### What the other agents leave -/

/-- While the gate is open, no move but a reset writes the active bank (R53(a)): a waveform goes to the other one. -/
theorem MachineInv.move_keeps_active_bank {a : Agent} {s t : State} (hi : MachineInv s) (hg : s.gate = true)
    (h : Move a s t) (ha : a ≠ .reset) {i : Nat} (hx : i < 256) :
    readCell t.banks (bankAddr s.activeSel i) = readCell s.banks (bankAddr s.activeSel i) := by
  have hs : s.devState = .streaming := (hi.gate_streams hg).1
  cases h with
  | resets => exact absurd rfl ha
  | starts _ ho => rw [hs] at ho; cases ho
  | updates => exact readCell_writeShadow (s := consulted s) s.lDc hx hi.count_bounded
  | closesStream => exact readCell_writeShadow Duty.zero hx hi.count_bounded
  | releases | closeDone => rw [releasePort_banks]
  | _ => rfl

/-- A move of another agent that leaves the gate open leaves where the cycle stands: the index, the count, the bank. -/
theorem MachineInv.move_keeps_cycle {a : Agent} {s t : State} (hi : MachineInv s) (hg : s.gate = true)
    (h : Move a s t) (ha : a ≠ .sequencer) (ht : t.gate = true) :
    t.seqIdx = s.seqIdx ∧ t.cfgN = s.cfgN ∧ t.activeSel = s.activeSel := by
  have hs : s.devState = .streaming := (hi.gate_streams hg).1
  cases h with
  | resets | badConfig | deviceError => cases ht
  | opens _ ho => rcases ho with e | e <;> rw [hs] at e <;> cases e
  | starts _ ho => rw [hs] at ho; cases ho
  | gateClosed | ticks | swaps | stops | repeats => exact absurd rfl ha
  | releases | closeDone => exact ⟨releasePort_seqIdx s, releasePort_cfgN s, releasePort_activeSel s⟩
  | _ => exact ⟨rfl, rfl, rfl⟩

/-- A bank whose bytes and count are as they were holds what it held. -/
theorem BankHolds.of_readCell_eq {s t : State} {b : Bool} {d : Duty} (h : BankHolds s b d)
    (hc : s.cfgN.toNat ≤ 256) (hn : t.cfgN = s.cfgN)
    (hb : ∀ i, i < 256 → readCell t.banks (bankAddr b i) = readCell s.banks (bankAddr b i)) : BankHolds t b d := by
  intro i hi
  rw [hn] at hi
  rw [hb i (hi.trans_le hc), h i hi]

/-! ### One cycle -/

/-- A trace of a cycle drives a beginning of these bytes, and all of them if it reached the wrap. -/
def CycleDrives (r : List Byte × Bool) (w : List Byte) : Prop :=
  r.1 <+: w ∧ (r.2 = true → r.1 = w)

theorem CycleDrives.nothing (w : List Byte) : CycleDrives ([], false) w :=
  ⟨List.nil_prefix, fun h => Bool.noConfusion h⟩

theorem CycleDrives.whole (w : List Byte) : CycleDrives (w, true) w :=
  ⟨List.prefix_rfl, fun _ => rfl⟩

theorem CycleDrives.cons {r : List Byte × Bool} {w : List Byte} (h : CycleDrives r w) (b : Byte) :
    CycleDrives (b :: r.1, r.2) (b :: w) :=
  ⟨(List.prefix_cons_inj b).2 h.1, fun hr => congrArg _ (h.2 hr)⟩

theorem cycleTrace_of_closed {s : State} (hg : s.gate = false) (l : List Agent) : cycleTrace l s = ([], false) := by
  cases l <;> simp [cycleTrace, hg]

/-- Inside a cycle the index moves on by one: it does not run over (42 R97). -/
theorem MachineInv.seqIdx_succ {s : State} (hi : MachineInv s) (hg : s.gate = true) (hw : atWrap s = false) :
    (s.seqIdx + 1#8).toNat = s.seqIdx.toNat + 1 := by
  have hx : s.seqIdx.toNat < s.cfgN.toNat := (hi.gate_streams hg).2
  have hn : s.seqIdx.toNat + 1 ≠ s.cfgN.toNat := by simpa [atWrap] using hw
  have hc : s.cfgN.toNat ≤ 256 := hi.count_bounded
  simp only [BitVec.toNat_add, BitVec.toNat_ofNat]
  omega

/-- From any index on, the trace of the cycle is the rest of the active bank's waveform (R53). -/
theorem MachineInv.cycleTrace_drives {s : State} {d : Duty} (hi : MachineInv s) (hg : s.gate = true)
    (hd : BankHolds s s.activeSel d) (l : List Agent) :
    CycleDrives (cycleTrace l s) ((encodeWave d s.cfgN.toNat).drop s.seqIdx.toNat) := by
  induction l generalizing s with
  | nil => exact .nothing _
  | cons a l ih =>
    rw [cycleTrace, if_pos hg]
    cases h : agentStep a s with
    | fault | refused => exact .nothing _
    | next t =>
      have hm : Move a s t := agentStep_move h
      have hi' : MachineInv t := hi.move hm
      dsimp only
      split
      next ha =>
        subst ha
        have hbyte : drivenByte s = sample d s.seqIdx.toNat := hd.driven (hi.gate_streams hg).2
        rw [encodeWave_drop d (hi.gate_streams hg).2, ← hbyte]
        cases hm with
        | gateClosed hc => simp [hg] at hc
        | ticks _ hw =>
          rw [if_neg (by simp [hw]), ← hi.seqIdx_succ hg hw]
          exact (ih hi' hg hd).cons _
        | swaps _ hw | stops _ hw | repeats _ hw =>
          rw [if_pos hw, (atWrap_iff s).1 hw, List.drop_of_length_le (encodeWave_length d _).le]
          exact .whole _
      next ha =>
        cases hg' : t.gate with
        | false => rw [cycleTrace_of_closed hg']; exact .nothing _
        | true =>
          obtain ⟨hidx, hn, hsel⟩ := hi.move_keeps_cycle hg hm ha hg'
          have hr : a ≠ .reset := by rintro rfl; cases hm; cases hg'
          have hd' : BankHolds t s.activeSel d :=
            hd.of_readCell_eq hi.count_bounded hn fun _ hx => hi.move_keeps_active_bank hg hm hr hx
          rw [← hsel] at hd'
          rw [← hidx, ← hn]
          exact ih hi' hg' hd'

end Sys2Proof.Safety

namespace Sys2Proof.Proofs

open Sys2Proof.Machine Sys2Proof.Safety

/-- Settles O56: START does not run while the gate is open, UPDATE and CLOSE write the other bank. -/
theorem activeBankIsNotWrittenWhileStreaming : Obligations.ActiveBankIsNotWrittenWhileStreaming :=
  fun _ _ _ hi hg h ha _ hx => hi.move_keeps_active_bank hg (agentStep_move h) ha hx

/-- Settles O51: the one vector is the active bank's, and index 0 drops none of its waveform. -/
theorem cyclesAreNeverTorn : Obligations.CyclesAreNeverTorn := by
  intro s l hi hg hidx
  obtain ⟨d, hd⟩ := hi.active_written (hi.gate_streams hg).1
  have hdrives := hi.cycleTrace_drives hg hd l
  rw [hidx] at hdrives
  exact ⟨d, hdrives⟩

end Sys2Proof.Proofs
end

section
/-! PROOF. The schedule decides who moves and nothing else (20_memory.md R52): each step does the same whatever the
schedule still holds, and leaves it. -/

namespace Sys2Proof.Machine

/-- The same state with another schedule. -/
def withSched (q : Supply Agent) (s : State) : State :=
  { s with sched := q }

/-- A step's outcome with its next state, if it answers one, changed by `f`. -/
def mapNext (f : State → State) : Host.Outcome State Fault Refusal → Host.Outcome State Fault Refusal
  | .next t => .next (f t)
  | .fault r => .fault r
  | .refused r => .refused r

section
variable (q : Supply Agent) (s : State)

@[simp] theorem withSched_devState : (withSched q s).devState = s.devState := rfl
@[simp] theorem withSched_phase : (withSched q s).phase = s.phase := rfl
@[simp] theorem withSched_swapPending : (withSched q s).swapPending = s.swapPending := rfl
@[simp] theorem withSched_stopReq : (withSched q s).stopReq = s.stopReq := rfl
@[simp] theorem withSched_gate : (withSched q s).gate = s.gate := rfl
@[simp] theorem withSched_outUnknown : (withSched q s).outUnknown = s.outUnknown := rfl
@[simp] theorem withSched_lCmd : (withSched q s).lCmd = s.lCmd := rfl
@[simp] theorem withSched_bus : (withSched q s).bus = s.bus := rfl
@[simp] theorem withSched_program : (withSched q s).program = s.program := rfl

@[simp] theorem atWrap_withSched : atWrap (withSched q s) = atWrap s := rfl

@[simp] theorem deviceAnswer_withSched : deviceAnswer (withSched q s) = deviceAnswer s := rfl

@[simp] theorem configLegal_withSched : configLegal (withSched q s) = configLegal s := rfl

/-! ### The Controller -/

theorem releasePort_withSched : releasePort (withSched q s) = withSched q (releasePort s) := by
  unfold releasePort
  rw [deviceAnswer_withSched]
  cases deviceAnswer s <;> rfl

theorem openExec_withSched : openExec (withSched q s) = withSched q (openExec s) := by
  unfold openExec
  rw [withSched_devState, configLegal_withSched, deviceAnswer_withSched]
  split_ifs
  · cases deviceAnswer s <;> rfl
  · rfl
  · rfl

theorem startExec_withSched : startExec (withSched q s) = withSched q (startExec s) := by
  unfold startExec
  rw [withSched_devState, deviceAnswer_withSched]
  split_ifs
  · cases deviceAnswer s <;> rfl
  · rfl

theorem updateExec_withSched : updateExec (withSched q s) = withSched q (updateExec s) := by
  unfold updateExec
  rw [withSched_devState, deviceAnswer_withSched]
  split_ifs
  · cases deviceAnswer s <;> rfl
  · rfl

theorem closeExec_withSched : closeExec (withSched q s) = withSched q (closeExec s) := by
  unfold closeExec
  rw [withSched_devState]
  cases s.devState with
  | closed | unopened | streaming => rfl
  | opened | faulted => exact releasePort_withSched q s

variable {q s} in
theorem unlessFaulted_withSched {run : State → State} (hrun : run (withSched q s) = withSched q (run s)) :
    unlessFaulted run (withSched q s) = withSched q (unlessFaulted run s) := by
  unfold unlessFaulted
  rw [withSched_devState, hrun]
  split_ifs <;> rfl

/-! ### The Host -/

theorem performRead_withSched (r : Reg) : performRead r (withSched q s) = withSched q (performRead r s) := by
  have hread : readReg r (withSched q s) = readReg r s := by cases r <;> rfl
  unfold performRead takeDraw
  rw [hread, withSched_outUnknown]
  split_ifs <;> rfl

theorem performWrite_withSched (v : Word) (r : Reg) :
    performWrite v r (withSched q s) = withSched q (performWrite v r s) := by
  cases r with
  | cmd =>
    unfold performWrite writeReg writeCmd
    rw [withSched_phase]
    split_ifs <;> rfl
  | _ => rfl

variable {q s} in
theorem access_withSched {perform : Reg → State → State}
    (hp : ∀ r, perform r (withSched q s) = withSched q (perform r s)) (w : Width) (off : Byte) :
    access w off perform (withSched q s) = withSched q (access w off perform s) := by
  unfold access
  split_ifs
  · cases regAt off with
    | some r => exact hp r
    | none => rfl
  · rfl
  · rfl

theorem afterFetch_withSched (rest : List HostOp) :
    afterFetch rest (withSched q s) = withSched q (afterFetch rest s) := rfl

theorem hostWait_withSched (rest : List HostOp) :
    hostWait rest (withSched q s) = withSched q (hostWait rest s) := by
  have hread := access_withSched (performRead_withSched q (afterFetch rest s)) .b4 (regOffset .status)
  unfold hostWait
  rw [afterFetch_withSched, hread]
  dsimp only
  rw [withSched_bus]
  split_ifs <;> rfl

/-! ### A step of each agent -/

/-- No instruction reads or writes the schedule. -/
theorem exec_withSched (i : Instr) : exec i (withSched q s) = mapNext (withSched q) (exec i s) := by
  cases i with
  | cmdOpen => exact congrArg _ (unlessFaulted_withSched (openExec_withSched q s))
  | cmdStart => exact congrArg _ (unlessFaulted_withSched (startExec_withSched q s))
  | cmdUpdate => exact congrArg _ (unlessFaulted_withSched (updateExec_withSched q s))
  | cmdClose => exact congrArg _ (closeExec_withSched q s)
  | rd w off => exact congrArg _ (access_withSched (performRead_withSched q s) w off)
  | wr w off v => exact congrArg _ (access_withSched (performWrite_withSched q s v) w off)

theorem hostAccess_withSched (d : Descriptor) :
    hostAccess d (withSched q s) = mapNext (withSched q) (hostAccess d s) := by
  unfold hostAccess
  cases decodeHostbus d with
  | ok i => exact exec_withSched q s i
  | error e => rfl

theorem hostStep_withSched : hostStep (withSched q s) = mapNext (withSched q) (hostStep s) := by
  unfold hostStep
  rw [withSched_program]
  cases s.program with
  | nil => rfl
  | cons op rest =>
    cases op with
    | access d => exact hostAccess_withSched q (afterFetch rest s) d
    | wait => exact congrArg _ (hostWait_withSched q s rest)

theorem controllerStep_withSched : controllerStep (withSched q s) = mapNext (withSched q) (controllerStep s) := by
  unfold controllerStep executeStep
  rw [withSched_phase, withSched_lCmd, withSched_swapPending, withSched_gate]
  cases s.phase with
  | idle => rfl
  | exec =>
    cases decodeCmd s.lCmd with
    | ok i => exact exec_withSched q s i
    | error e => rfl
  | waitSwap => cases s.swapPending <;> rfl
  | waitStop =>
    cases s.gate with
    | true => rfl
    | false => exact congrArg _ (releasePort_withSched q s)

theorem wrap_withSched : wrap (withSched q s) = withSched q (wrap s) := by
  unfold wrap
  rw [withSched_swapPending, withSched_stopReq]
  split_ifs <;> rfl

theorem tick_withSched : tick (withSched q s) = withSched q (tick s) := by
  unfold tick
  dsimp only
  rw [atWrap_withSched]
  split_ifs
  · exact wrap_withSched q { s with out := drivenByte s, outUnknown := false, seqIdx := 0#8 }
  · rfl

theorem sequencerStep_withSched : sequencerStep (withSched q s) = withSched q (sequencerStep s) := by
  unfold sequencerStep
  rw [withSched_gate, tick_withSched]
  split_ifs <;> rfl

/-- No agent reads or writes the schedule. -/
theorem agentStep_withSched (a : Agent) : agentStep a (withSched q s) = mapNext (withSched q) (agentStep a s) := by
  cases a with
  | host => exact hostStep_withSched q s
  | controller => exact controllerStep_withSched q s
  | sequencer => exact congrArg _ (sequencerStep_withSched q s)
  | reset => rfl

end

/-- With a name given, a step is that agent's, and the rest of the names are left. -/
theorem step_given (a : Agent) (l : List Agent) (n : Nat) (s : State) :
    step (withSched ⟨a :: l, n⟩ s) = mapNext (withSched ⟨l, n + 1⟩) (agentStep a s) :=
  agentStep_withSched ⟨l, n + 1⟩ s a

end Sys2Proof.Machine

namespace Sys2Proof.Safety

open Sys2Proof.Machine

theorem run_succ_of_next {M : Host.Core} {s t : M.State} (h : M.step s = .next t) (k : Nat) :
    M.run (k + 1) s = M.run k t := by
  rw [Host.Core.run, h]

theorem run_succ_of_refused {M : Host.Core} {s : M.State} {r : M.Refusal} (h : M.step s = .refused r) (k : Nat) :
    M.run (k + 1) s = .refused r := by
  rw [Host.Core.run, h]

/-- The machine given a list of names as its schedule runs those agents, and uses the list up. -/
theorem run_given (l : List Agent) (n : Nat) (s : State) :
    core.run l.length (withSched ⟨l, n⟩ s) = mapNext (withSched ⟨[], n + l.length⟩) (runAgents l s) := by
  induction l generalizing n s with
  | nil => rfl
  | cons a l ih =>
    have hstep : step (withSched ⟨a :: l, n⟩ s) = mapNext (withSched ⟨l, n + 1⟩) (agentStep a s) :=
      step_given a l n s
    rw [runAgents]
    cases ha : agentStep a s with
    | fault r => exact nomatch r
    | refused r =>
      rw [ha] at hstep
      exact run_succ_of_refused (M := core) hstep l.length
    | next t =>
      rw [ha] at hstep
      have hcount : n + (l.length + 1) = n + 1 + l.length := by omega
      rw [List.length_cons, hcount]
      exact (run_succ_of_next (M := core) hstep l.length).trans (ih (n + 1) t)

end Sys2Proof.Safety

namespace Sys2Proof.Proofs

open Sys2Proof.Machine Sys2Proof.Safety

/-- Settles O9: both parts are `run_given`, at the two outcomes of the interleaving. -/
theorem everyInterleavingIsARun : Obligations.EveryInterleavingIsARun := by
  intro l s n
  constructor
  · intro t h
    exact (run_given l n s).trans (congrArg _ h)
  · intro r h
    exact (run_given l n s).trans (congrArg _ h)

end Sys2Proof.Proofs
end

section
/-! PROOF. The decoders and the encoder are inverse to each other, and what the decoders refuse (30_encoding.md R58 to
R63). -/

namespace Sys2Proof

/-! ### The width field -/

@[simp] theorem Width.ofCode_code (w : Width) : Width.ofCode w.code = w := by
  cases w <;> rfl

@[simp] theorem Width.code_ofCode (c : BitVec 2) : (Width.ofCode c).code = c := by
  revert c
  decide

/-! ### A CMD word, by its two checks -/

theorem decodeCmd_of_reserved {w : Word} (h : w.extractLsb' 4 28 ≠ 0#28) : decodeCmd w = .error .reservedBits := by
  simp [decodeCmd, cmdReservedZero, h]

theorem decodeCmd_of_unreserved {w : Word} (h : w.extractLsb' 4 28 = 0#28) :
    decodeCmd w = decodeOpcode (w.extractLsb' 0 4) := by
  simp [decodeCmd, cmdReservedZero, h]

/-- OP is refused exactly outside 1 to 4 (R61, R63). -/
theorem decodeOpcode_error_iff (op : BitVec 4) :
    (∃ e, decodeOpcode op = .error e) ↔ ¬ (1 ≤ op.toNat ∧ op.toNat ≤ 4) := by
  unfold decodeOpcode
  split
  case h_5 h1 h2 h3 h4 =>
    have hop : ¬ (1 ≤ op.toNat ∧ op.toNat ≤ 4) := by
      simp only [imp_false] at h1 h2 h3 h4
      omega
    exact ⟨fun _ => hop, fun _ => ⟨_, rfl⟩⟩
  all_goals simp [*]

theorem encode_of_decodeCmd {w : Word} {i : Instr} (h : decodeCmd w = .ok i) : encode i = .cmd w := by
  obtain ⟨rfl, rfl⟩ | ⟨rfl, rfl⟩ | ⟨rfl, rfl⟩ | ⟨rfl, rfl⟩ := Machine.decodeCmd_ok h <;> rfl

/-! ### A descriptor, by its checks and its W bit -/

section

variable {d : Descriptor}

theorem decodeHostbus_of_reserved (hrsv : d.extractLsb' 42 5 ≠ 0#5) : decodeHostbus d = .error .reservedBits := by
  simp [decodeHostbus, descriptorReservedZero, hrsv]

theorem decodeHostbus_of_write (hrsv : d.extractLsb' 42 5 = 0#5) (hw : d.getLsbD 47 = true) :
    decodeHostbus d =
      .ok (.wr (Width.ofCode (d.extractLsb' 40 2)) (d.extractLsb' 32 8) (d.extractLsb' 0 32)) := by
  rw [decodeHostbus, descriptorReservedZero, hrsv, hw]
  rfl

theorem decodeHostbus_of_read (hrsv : d.extractLsb' 42 5 = 0#5) (hw : d.getLsbD 47 = false)
    (hdata : d.extractLsb' 0 32 = 0#32) :
    decodeHostbus d = .ok (.rd (Width.ofCode (d.extractLsb' 40 2)) (d.extractLsb' 32 8)) := by
  rw [decodeHostbus, descriptorReservedZero, hrsv, hw, hdata]
  rfl

theorem decodeHostbus_of_readData (hrsv : d.extractLsb' 42 5 = 0#5) (hw : d.getLsbD 47 = false)
    (hdata : d.extractLsb' 0 32 ≠ 0#32) : decodeHostbus d = .error .readData := by
  rw [decodeHostbus, descriptorReservedZero, hrsv, hw, beq_false_of_ne hdata]
  rfl

/-- All a descriptor can decode to, with the fields that make it so (R59, R62). -/
theorem decodeHostbus_cases (d : Descriptor) :
    (d.extractLsb' 42 5 ≠ 0#5 ∧ decodeHostbus d = .error .reservedBits) ∨
    (d.extractLsb' 42 5 = 0#5 ∧ d.getLsbD 47 = true ∧ decodeHostbus d =
      .ok (.wr (Width.ofCode (d.extractLsb' 40 2)) (d.extractLsb' 32 8) (d.extractLsb' 0 32))) ∨
    (d.extractLsb' 42 5 = 0#5 ∧ d.getLsbD 47 = false ∧ d.extractLsb' 0 32 = 0#32 ∧ decodeHostbus d =
      .ok (.rd (Width.ofCode (d.extractLsb' 40 2)) (d.extractLsb' 32 8))) ∨
    (d.extractLsb' 42 5 = 0#5 ∧ d.getLsbD 47 = false ∧ d.extractLsb' 0 32 ≠ 0#32 ∧
      decodeHostbus d = .error .readData) := by
  by_cases hrsv : d.extractLsb' 42 5 = 0#5
  · cases hw : d.getLsbD 47 with
    | true => exact .inr (.inl ⟨hrsv, rfl, decodeHostbus_of_write hrsv hw⟩)
    | false =>
      by_cases hdata : d.extractLsb' 0 32 = 0#32
      · exact .inr (.inr (.inl ⟨hrsv, rfl, hdata, decodeHostbus_of_read hrsv hw hdata⟩))
      · exact .inr (.inr (.inr ⟨hrsv, rfl, hdata, decodeHostbus_of_readData hrsv hw hdata⟩))
  · exact .inl ⟨hrsv, decodeHostbus_of_reserved hrsv⟩

/-- With RSV = 0 a descriptor is nothing but its four other fields (R59). -/
theorem descriptorOf_fields (hrsv : d.extractLsb' 42 5 = 0#5) :
    descriptorOf (BitVec.ofBool (d.getLsbD 47)) (Width.ofCode (d.extractLsb' 40 2)) (d.extractLsb' 32 8)
      (d.extractLsb' 0 32) = d := by
  have hw : BitVec.ofBool (d.getLsbD 47) = d.extractLsb' 47 1 := by
    apply BitVec.eq_of_getLsbD_eq
    intro k hk
    obtain rfl : k = 0 := by omega
    simp
  rw [descriptorOf, Width.code_ofCode, ← hrsv, hw]
  simp only [BitVec.extractLsb'_append_extractLsb'_eq_extractLsb', BitVec.extractLsb'_eq_self]

theorem encode_of_decodeHostbus {i : Instr} (h : decodeHostbus d = .ok i) : encode i = .hostbus d := by
  obtain ⟨-, hdec⟩ | ⟨hrsv, hw, hdec⟩ | ⟨hrsv, hw, hdata, hdec⟩ | ⟨-, -, -, hdec⟩ := decodeHostbus_cases d <;>
    cases hdec.symm.trans h
  case inr.inl =>
    have hfields := descriptorOf_fields hrsv
    rw [hw] at hfields
    exact congrArg _ hfields
  case inr.inr.inl =>
    have hfields := descriptorOf_fields hrsv
    rw [hw, hdata] at hfields
    exact congrArg _ hfields

end

/-! ### Either format -/

theorem ok_of_toOption_eq_some {ε α : Type} {x : Except ε α} {a : α} (h : x.toOption = some a) : x = .ok a := by
  cases x with
  | ok b => exact congrArg _ (Option.some.inj h)
  | error e => cases h

end Sys2Proof

namespace Sys2Proof.Proofs

/-- Settles O1: each command's word is fixed, and of a host access the decoder reads back each field of `WordShape`. -/
theorem decodeInvertsEncode : Obligations.DecodeInvertsEncode := by
  intro i
  cases i with
  | cmdOpen | cmdStart | cmdUpdate | cmdClose => rfl
  | rd sz off =>
    obtain ⟨d, henc, hw, hrsv, hsz, hoff, hdata⟩ := Laws.WordShape.rd sz off
    rw [henc, decode, decodeHostbus_of_read hrsv hw hdata, hsz, hoff, Width.ofCode_code]
    rfl
  | wr sz off data =>
    obtain ⟨d, henc, hw, hrsv, hsz, hoff, hdata⟩ := Laws.WordShape.wr sz off data
    rw [henc, decode, decodeHostbus_of_write hrsv hw, hsz, hoff, hdata, Width.ofCode_code]
    rfl

/-- Settles O2: a raw word that decodes is the encoding of its fields, in each format. -/
theorem encodeInvertsDecode : Obligations.EncodeInvertsDecode := by
  intro r i h
  cases r with
  | cmd w => exact encode_of_decodeCmd (ok_of_toOption_eq_some h)
  | hostbus d => exact encode_of_decodeHostbus (ok_of_toOption_eq_some h)

/-- Settles O3: by the two checks of a CMD word, and the four cases of a descriptor. -/
theorem decodersRefuseExactlyTheReserved : Obligations.DecodersRefuseExactlyTheReserved := by
  refine ⟨fun w => ?_, fun d => ?_, fun d => ?_⟩
  · by_cases hrsv : w.extractLsb' 4 28 = 0#28
    · rw [decodeCmd_of_unreserved hrsv, decodeOpcode_error_iff, or_iff_right (not_not_intro hrsv)]
    · exact ⟨fun _ => .inl hrsv, fun _ => ⟨_, decodeCmd_of_reserved hrsv⟩⟩
  · obtain ⟨hrsv, hdec⟩ | ⟨hrsv, -, hdec⟩ | ⟨hrsv, -, -, hdec⟩ | ⟨hrsv, -, -, hdec⟩ := decodeHostbus_cases d <;>
      simp [hdec, hrsv]
  · obtain ⟨hrsv, hdec⟩ | ⟨-, hw, hdec⟩ | ⟨-, -, hdata, hdec⟩ | ⟨hrsv, hw, hdata, hdec⟩ := decodeHostbus_cases d
    · simp [hdec, hrsv]
    · simp only [hdec, hw, reduceCtorEq, false_and, and_false]
    · simp [hdec, hdata]
    · simp only [hdec, hrsv, hw, ne_eq, hdata, not_false_eq_true, and_self]

/-- Settles O4: each encoding is computed, and decodes back by O1. -/
theorem workedEncodingsAgree : Obligations.WorkedEncodingsAgree := by
  have both {i : Instr} {r : RawInstr} (h : encode i = r) : encode i = r ∧ decode r = some i :=
    ⟨h, h ▸ decodeInvertsEncode i⟩
  exact ⟨both rfl, both rfl, both rfl, both rfl⟩

end Sys2Proof.Proofs
end

section
/-! PROOF. The Host's turn on a descriptor that is not well-formed and on WAIT (30_encoding.md R59, R66). -/

namespace Sys2Proof.Machine

theorem hostAccess_of_malformed {d : Descriptor} {e : HostbusError} (h : decodeHostbus d = .error e) (s : State) :
    hostAccess d s = .refused (.malformedDescriptor e) := by
  unfold hostAccess
  rw [h]

theorem hostStep_of_wait {s : State} {rest : List HostOp} (h : s.program = .wait :: rest) :
    hostStep s = .next (hostWait rest s) := by
  unfold hostStep
  rw [h]

/-- A turn of WAIT reads STATUS, and leaves the loop exactly when its BUSY bit is 0 (R66). -/
theorem hostWait_eq (rest : List HostOp) (s : State) :
    hostWait rest s =
      { s with bus := .data (statusWord s), program := if s.busy then .wait :: rest else rest } := by
  have hbusy : statusBusy (statusWord s) = s.busy := (statusWord_bits s).1
  have hread : access .b4 (regOffset .status) performRead (afterFetch rest s) =
      { s with bus := .data (statusWord s), program := rest } := access_regOffset ..
  unfold hostWait
  rw [hread]
  simp only [responseBusy, hbusy]
  split <;> rfl

end Sys2Proof.Machine

namespace Sys2Proof.Proofs

open Sys2Proof.Machine

/-- Settles O7: the Host's turn is its fetch, and the fetched descriptor is refused by the decoder's name. -/
theorem malformedDescriptorIsRefused : Obligations.MalformedDescriptorIsRefused := by
  intro s d rest e hturn hprog hdec
  have hfetch : hostStep (chosen s) = hostAccess d (afterFetch rest (chosen s)) := hostStep_of_access hprog
  exact (step_of_nextAgent hturn).trans (hfetch.trans (hostAccess_of_malformed hdec _))

/-- Settles O19: the turn is `hostWait_eq`, and BUSY is that PHASE is not IDLE. -/
theorem waitRepeatsWhileBusy : Obligations.WaitRepeatsWhileBusy := by
  intro s rest hprog
  have hturn : agentStep .host s = .next { s with
      bus := .data (statusWord s), program := if s.busy then .wait :: rest else rest } :=
    (hostStep_of_wait hprog).trans (congrArg _ (hostWait_eq rest s))
  rw [hturn]
  constructor
  · intro hphase
    simp [State.busy, hphase, ← hprog]
  · intro hphase
    simp [State.busy, hphase]

end Sys2Proof.Proofs
end

section
/-! PROOF. The encoder's bit-planes and samples (40_encoder.md R68 to R80): a bit-plane is a run of ones and a run of
zeros, and so is a waveform whose channels all have one duty cycle. -/

namespace Sys2Proof.Machine

/-! ### The samples of a waveform -/

theorem encodeWave_getElem?_eq_some {d : Duty} {n i : Nat} {w : Byte} :
    (encodeWave d n)[i]? = some w ↔ i < n ∧ sample d i = w := by
  rw [encodeWave_getElem?, Option.ite_none_right_eq_some, Option.some_inj]

theorem mem_encodeWave {d : Duty} {n : Nat} {w : Byte} : w ∈ encodeWave d n ↔ ∃ i < n, sample d i = w := by
  simp [encodeWave]

/-! ### Runs -/

/-- What is `a` below the index k and `b` from there on is a run of each. -/
theorem map_range_threshold {α : Type} (a b : α) (k n : Nat) :
    (List.range n).map (fun i => if i < k then a else b) =
      List.replicate (min k n) a ++ List.replicate (n - min k n) b := by
  refine List.ext_getElem (by simp) fun i hi _ => ?_
  have hin : i < n := by simpa using hi
  by_cases h : i < k
  · simp [h, hin]
  · simp [List.getElem_append, h]

/-- Bit-plane j is min(dc[j], N) ones, then zeros (R72, R73). -/
theorem bitPlane_eq_runs (d : Duty) (n : Nat) (j : Fin 8) :
    (encodeWave d n).map (fun w => w.getLsbD j.val) =
      List.replicate (min (d.channel j).toNat n) true ++ List.replicate (n - min (d.channel j).toNat n) false := by
  rw [encodeWave, List.map_map, ← map_range_threshold]
  refine List.map_congr_left fun i _ => ?_
  rw [Function.comp_apply, sample_getLsbD, Bool.if_false_right, Bool.and_true]

/-! ### Bits of consecutive samples -/

/-- A channel that is high at sample i + 1 is high at sample i (R74). -/
theorem sample_getLsbD_of_succ {d : Duty} {i : Nat} {j : Fin 8} (h : (sample d (i + 1)).getLsbD j.val = true) :
    (sample d i).getLsbD j.val = true := by
  rw [sample_getLsbD, decide_eq_true_iff] at h ⊢
  omega

theorem sample_succ_and_not (d : Duty) (i : Nat) : sample d (i + 1) &&& ~~~sample d i = 0#8 := by
  refine BitVec.eq_of_getLsbD_eq fun j hj => ?_
  have hbit : (sample d (i + 1)).getLsbD j = true → (sample d i).getLsbD j = true :=
    sample_getLsbD_of_succ (j := ⟨j, hj⟩)
  simpa [hj] using hbit

/-! ### Waveforms with one duty cycle on all channels -/

theorem sample_of_uniform {d : Duty} {c : Byte} (hd : ∀ j, d.channel j = c) (i : Nat) :
    sample d i = if i < c.toNat then 0xFF#8 else 0x00#8 := by
  refine BitVec.eq_of_getLsbD_eq fun j hj => ?_
  have hbit : (sample d i).getLsbD j = decide (i < (d.channel ⟨j, hj⟩).toNat) := sample_getLsbD d i ⟨j, hj⟩
  have hones : (0xFF#8).getLsbD j = true :=
    (BitVec.getLsbD_allOnes (v := 8)).trans (decide_eq_true hj)
  rw [hbit, hd]
  split
  case isTrue h => simp [h, hones]
  case isFalse h => simp [h]

theorem encodeWave_of_uniform {d : Duty} {c : Byte} (hd : ∀ j, d.channel j = c) (n : Nat) :
    encodeWave d n = List.replicate (min c.toNat n) 0xFF#8 ++ List.replicate (n - min c.toNat n) 0x00#8 := by
  rw [encodeWave, ← map_range_threshold]
  exact List.map_congr_left fun i _ => sample_of_uniform hd i

end Sys2Proof.Machine

namespace Sys2Proof.Proofs

open Sys2Proof.Machine

/-- Settles O42: the samples are `sample d i` for i below N, and `sample_getLsbD` reads their bits. -/
theorem sampleBitsFollowTheFormula : Obligations.SampleBitsFollowTheFormula := by
  intro d n
  refine ⟨encodeWave_length d n, fun i hi => ⟨sample d i, ?_, sample_getLsbD d i⟩⟩
  exact encodeWave_getElem?_eq_some.2 ⟨hi, rfl⟩

/-- Settles O43: the two runs are `bitPlane_eq_runs`, and the count is the first run's length. -/
theorem bitPlanesAreLeadingRuns : Obligations.BitPlanesAreLeadingRuns := by
  intro d n j
  have hruns := bitPlane_eq_runs d n j
  have hcount : (encodeWave d n).countP (fun w => w.getLsbD j.val) =
      ((encodeWave d n).map fun w => w.getLsbD j.val).countP id := by
    rw [List.countP_map, Function.id_comp]
  refine ⟨hruns, ?_⟩
  rw [hcount, hruns]
  simp [List.countP_append, List.countP_replicate]

/-- Settles O44: a bit of the next sample is a bit of this one, channel by channel. -/
theorem samplesNeverGainABit : Obligations.SamplesNeverGainABit := by
  intro d n i v w hv
  obtain ⟨-, rfl⟩ := encodeWave_getElem?_eq_some.1 hv
  constructor
  · simp only [sample_getLsbD]
  · intro hw
    obtain ⟨-, rfl⟩ := encodeWave_getElem?_eq_some.1 hw
    exact ⟨sample_succ_and_not d i, List.countP_mono_left fun j _ => sample_getLsbD_of_succ⟩

/-- Settles O45: the clauses on single channels read `sample_getLsbD` at an index below N; those on the all-zero and the
all-255 vector are `encodeWave_of_uniform`. -/
theorem encoderCornerCases : Obligations.EncoderCornerCases := by
  refine ⟨fun d n j hj w hw => ?_, fun n => ?_, fun d n j hj => ?_, fun d j hj i w hw => ?_, ?_, fun d => ?_⟩
  case refine_1 =>
    obtain ⟨i, -, rfl⟩ := mem_encodeWave.1 hw
    rw [sample_getLsbD, hj, decide_eq_false_iff_not]
    exact Nat.not_lt_zero i
  case refine_2 =>
    simpa using encodeWave_of_uniform (d := Duty.zero) (c := 0#8) (by decide) n
  case refine_3 =>
    have hbyte : (d.channel j).toNat < 256 := (d.channel j).isLt
    refine ⟨by omega, fun w hw => ?_⟩
    obtain ⟨i, hi, rfl⟩ := mem_encodeWave.1 hw
    rw [sample_getLsbD, decide_eq_true_iff]
    exact hi.trans_le hj
  case refine_4 =>
    obtain ⟨-, rfl⟩ := encodeWave_getElem?_eq_some.1 hw
    rw [sample_getLsbD, hj]
    rfl
  case refine_5 =>
    exact encodeWave_of_uniform (c := 255#8) (by decide) 256
  case refine_6 =>
    exact ⟨sample d 0, rfl, sample_getLsbD d 0⟩

/-- Settles O46: by `bitPlane_eq_runs` the plane is a function of dc[j] and N. -/
theorem lanesAreIndependent : Obligations.LanesAreIndependent := by
  intro d d' n j h
  rw [bitPlane_eq_runs, bitPlane_eq_runs, h]

end Sys2Proof.Proofs
end

section
/-! PROOF. What each command's execute step and each completion step does, case by case (41_commands.md R82 to R95). -/

namespace Sys2Proof.Machine

/-! ### CMD writes -/

theorem writeCmd_of_idle {s : State} (hp : s.phase = .idle) (v : Word) : writeCmd v s = accept v s :=
  if_pos hp

theorem writeCmd_of_busy {s : State} (hp : s.phase ≠ .idle) (v : Word) :
    writeCmd v s = { s with overrun := true } :=
  if_neg hp

/-- A 4-byte write at offset 0x00 is a write of CMD (R107). -/
theorem exec_wr_cmd (v : Word) (s : State) : exec (.wr .b4 0x00#8 v) s = .next (respond .written (writeCmd v s)) :=
  exec_wr_reg .cmd v s

/-! ### From the opcode to the command's own step -/

/-- OPEN, START and UPDATE in Faulted re-report the fault (R88). -/
theorem exec_of_faulted {s : State} {i : Instr} (hi : i ∈ [Instr.cmdOpen, .cmdStart, .cmdUpdate])
    (hf : s.devState = .faulted) : exec i s = .next (complete s.faultKind s) := by
  have hrun (run : State → State) : unlessFaulted run s = complete s.faultKind s := if_pos hf
  simp only [List.mem_cons, List.not_mem_nil, or_false] at hi
  obtain rfl | rfl | rfl := hi
  · exact congrArg _ (hrun openExec)
  · exact congrArg _ (hrun startExec)
  · exact congrArg _ (hrun updateExec)

theorem exec_cmdOpen {s : State} (hf : s.devState ≠ .faulted) : exec .cmdOpen s = .next (openExec s) :=
  congrArg _ (if_neg hf)

theorem exec_cmdStart {s : State} (hf : s.devState ≠ .faulted) : exec .cmdStart s = .next (startExec s) :=
  congrArg _ (if_neg hf)

theorem exec_cmdUpdate {s : State} (hf : s.devState ≠ .faulted) : exec .cmdUpdate s = .next (updateExec s) :=
  congrArg _ (if_neg hf)

theorem exec_cmdClose (s : State) : exec .cmdClose s = .next (closeExec s) :=
  rfl

/-! ### OPEN (R89) -/

theorem openExec_of_wrongState {s : State} (hs : ¬ (s.devState = .unopened ∨ s.devState = .closed)) :
    openExec s = complete .illegalState s :=
  if_neg hs

section
variable {s : State} (hs : s.devState = .unopened ∨ s.devState = .closed)
include hs

theorem openExec_of_badConfig (hl : ¬ configLegal s = true) :
    openExec s = complete .configurationError (enterFaulted .configurationError none s) := by
  rw [openExec, if_pos hs, if_neg hl]

theorem openExec_of_deviceError (hl : configLegal s = true) {c : Word} (ha : deviceAnswer s = some c) :
    openExec s = failHardware c (consulted s) := by
  rw [openExec, if_pos hs, if_pos hl, ha]

theorem openExec_of_deviceOk (hl : configLegal s = true) (ha : deviceAnswer s = none) :
    openExec s = complete .ok (configure (consulted s)) := by
  rw [openExec, if_pos hs, if_pos hl, ha]

end

/-! ### START (R91) -/

theorem startExec_of_wrongState {s : State} (hs : s.devState ≠ .opened) : startExec s = complete .illegalState s :=
  if_neg hs

theorem startExec_of_deviceError {s : State} (hs : s.devState = .opened) {c : Word} (ha : deviceAnswer s = some c) :
    startExec s = failHardware c (consulted s) := by
  rw [startExec, if_pos hs, ha]

theorem startExec_of_deviceOk {s : State} (hs : s.devState = .opened) (ha : deviceAnswer s = none) :
    startExec s = complete .ok (beginStream (writeWave false s.lDc (consulted s))) := by
  rw [startExec, if_pos hs, ha]

/-! ### UPDATE (R92, R93) -/

theorem updateExec_of_notStreaming {s : State} (hs : s.devState ≠ .streaming) :
    updateExec s = complete .notStreaming s :=
  if_neg hs

theorem updateExec_of_deviceError {s : State} (hs : s.devState = .streaming) {c : Word}
    (ha : deviceAnswer s = some c) : updateExec s = failHardware c (consulted s) := by
  rw [updateExec, if_pos hs, ha]

theorem updateExec_of_deviceOk {s : State} (hs : s.devState = .streaming) (ha : deviceAnswer s = none) :
    updateExec s = awaitSwap (writeWave (!s.activeSel) s.lDc (consulted s)) := by
  rw [updateExec, if_pos hs, ha]

theorem controllerStep_of_swapPending {s : State} (hp : s.phase = .waitSwap) (hs : s.swapPending = true) :
    controllerStep s = .next s := by
  rw [controllerStep, hp]
  exact if_pos hs

theorem controllerStep_of_swapTaken {s : State} (hp : s.phase = .waitSwap) (hs : s.swapPending = false) :
    controllerStep s = .next (complete .ok s) := by
  rw [controllerStep, hp]
  exact if_neg (by simp [hs])

/-! ### CLOSE (R94, R95) -/

theorem releasePort_of_deviceOk {s : State} (ha : deviceAnswer s = none) :
    releasePort s = complete .ok (consulted (closeDevice s)) := by
  rw [releasePort, ha]

theorem releasePort_of_deviceError {s : State} {c : Word} (ha : deviceAnswer s = some c) :
    releasePort s = complete .hardwareError (recordError c (consulted (closeDevice s))) := by
  rw [releasePort, ha]

theorem closeExec_of_nothing {s : State} (hs : s.devState = .closed ∨ s.devState = .unopened) :
    closeExec s = complete .ok s := by
  obtain e | e := hs <;> rw [closeExec, e]

theorem closeExec_of_streaming {s : State} (hs : s.devState = .streaming) :
    closeExec s = awaitStop (writeWave (!s.activeSel) Duty.zero s) := by
  rw [closeExec, hs]

theorem closeExec_of_port {s : State} (hs : s.devState = .opened ∨ s.devState = .faulted) :
    closeExec s = releasePort s := by
  obtain e | e := hs <;> rw [closeExec, e]

theorem controllerStep_of_gateOpen {s : State} (hp : s.phase = .waitStop) (hg : s.gate = true) :
    controllerStep s = .next s := by
  rw [controllerStep, hp]
  exact if_pos hg

theorem controllerStep_of_gateClosed {s : State} (hp : s.phase = .waitStop) (hg : s.gate = false) :
    controllerStep s = .next (releasePort s) := by
  rw [controllerStep, hp]
  exact if_neg (by simp [hg])

/-! ### Illegal words (R87) -/

theorem executeStep_of_illegal {s : State} {e : CmdError} (h : decodeCmd s.lCmd = .error e) :
    executeStep s = .next (complete .illegalCommand s) := by
  rw [executeStep, h]
  rfl

/-! ### The bank a command writes -/

/-- What a read of the bank space finds after a waveform is written, address by address (40 R81). -/
theorem readCell_writeWave_addr (b : Bool) (d : Duty) (s : State) (a : Nat) :
    readCell (writeWave b d s).banks a =
      if bankAddr b 0 ≤ a ∧ a < bankAddr b 0 + s.cfgN.toNat
      then (encodeWave d s.cfgN.toNat)[a - bankAddr b 0]? else readCell s.banks a := by
  rw [writeWave_banks, readCell_writeRun, encodeWave_length]

/-- The all-zero waveform, read back address by address (40 R77, 41 R94). -/
theorem readCell_writeZero_addr (b : Bool) (s : State) (a : Nat) :
    readCell (writeWave b Duty.zero s).banks a =
      if bankAddr b 0 ≤ a ∧ a < bankAddr b 0 + s.cfgN.toNat then some 0#8 else readCell s.banks a := by
  rw [readCell_writeWave_addr]
  split
  next h =>
    have hin : a - bankAddr b 0 < s.cfgN.toNat := by omega
    rw [encodeWave_getElem?, if_pos hin, sample_zero]
  next => rfl

end Sys2Proof.Machine

namespace Sys2Proof.Proofs

open Sys2Proof.Machine Sys2Proof.Safety

/-- Settles O14: the write reaches CMD, which accepts while idle. -/
theorem cmdWriteIsAcceptedWhenIdle : Obligations.CmdWriteIsAcceptedWhenIdle := by
  intro s v hp
  rw [exec_wr_cmd, writeCmd_of_idle hp]
  rfl

/-- Settles O15: the write reaches CMD, which drops it while busy. -/
theorem cmdWriteIsDroppedWhenBusy : Obligations.CmdWriteIsDroppedWhenBusy := by
  intro s v hp
  rw [exec_wr_cmd, writeCmd_of_busy hp]
  rfl

/-- Settles O26: the check of R88 stands before each of the three commands. -/
theorem faultedCommandsReportTheFault : Obligations.FaultedCommandsReportTheFault :=
  fun _ _ hf hi => exec_of_faulted hi hf

/-- Settles O28: by the two cases of SWAP_PENDING. -/
theorem updateCompletesAfterTheSwap : Obligations.UpdateCompletesAfterTheSwap :=
  fun _ hp => ⟨controllerStep_of_swapPending hp, controllerStep_of_swapTaken hp⟩

/-- Settles O29: once the gate is closed the step releases the port, by the Device's answer. -/
theorem closeCompletesAfterTheStop : Obligations.CloseCompletesAfterTheStop := by
  intro s hp
  refine ⟨controllerStep_of_gateOpen hp, fun hg => ?_⟩
  have hstep : agentStep .controller s = .next (releasePort s) := controllerStep_of_gateClosed hp hg
  refine ⟨fun ha => ?_, fun c ha => ?_⟩
  · rw [hstep, releasePort_of_deviceOk ha]
    rfl
  · rw [hstep, releasePort_of_deviceError ha]
    rfl

/-- Settles O27: such a word is one the decoder refuses, and the refusal completes whatever the device state. -/
theorem illegalWordCompletes : Obligations.IllegalWordCompletes := by
  intro s hp hill
  obtain ⟨e, he⟩ := (decodersRefuseExactlyTheReserved.1 s.lCmd).2 hill
  exact (controllerStep_of_exec hp).trans (executeStep_of_illegal he)

/-- Settles O22: by the device state, then R90's check, then the Device's answer. -/
theorem openFollowsTheRule : Obligations.OpenFollowsTheRule := by
  refine ⟨rfl, fun s => ⟨exec_of_faulted (by decide), fun hs => ?_, fun hs => ?_⟩⟩
  · have hf : s.devState ≠ .faulted := by rcases hs with e | e <;> simp [e]
    rw [exec_cmdOpen hf, openExec_of_wrongState (by rcases hs with e | e <;> simp [e])]
    rfl
  · have hf : s.devState ≠ .faulted := by rcases hs with e | e <;> simp [e]
    rw [exec_cmdOpen hf, ← configLegal_iff]
    refine ⟨fun hl => ?_, fun hl => ⟨fun c ha => ?_, fun ha => ?_⟩⟩
    · rw [openExec_of_badConfig hs hl]
      rfl
    · rw [openExec_of_deviceError hs hl ha]
      rfl
    · rw [openExec_of_deviceOk hs hl ha]
      exact ⟨_, rfl, configLegal_count hl, rfl⟩

/-- Settles O23: by the device state, then the Device's answer; the bank is read back by `readCell_writeWave_addr`. -/
theorem startFollowsTheRule : Obligations.StartFollowsTheRule := by
  refine ⟨rfl, fun s => ⟨exec_of_faulted (by decide), fun hs => ?_, fun hs => ?_⟩⟩
  · have hf : s.devState ≠ .faulted := by rcases hs with e | e | e <;> simp [e]
    rw [exec_cmdStart hf, startExec_of_wrongState (by rcases hs with e | e | e <;> simp [e])]
    rfl
  · rw [exec_cmdStart (by simp [hs])]
    refine ⟨fun c ha => ?_, fun ha => ?_⟩
    · rw [startExec_of_deviceError hs ha]
      rfl
    · rw [startExec_of_deviceOk hs ha]
      exact ⟨_, rfl, rfl, readCell_writeWave_addr false s.lDc (consulted s)⟩

/-- Settles O24: by the device state, then the Device's answer; the bank is read back by `readCell_writeWave_addr`. -/
theorem updateFollowsTheRule : Obligations.UpdateFollowsTheRule := by
  refine ⟨rfl, fun s => ⟨exec_of_faulted (by decide), fun hs => ?_, fun hs => ?_⟩⟩
  · have hf : s.devState ≠ .faulted := by rcases hs with e | e | e <;> simp [e]
    rw [exec_cmdUpdate hf, updateExec_of_notStreaming (by rcases hs with e | e | e <;> simp [e])]
    rfl
  · rw [exec_cmdUpdate (by simp [hs])]
    refine ⟨fun c ha => ?_, fun ha => ?_⟩
    · rw [updateExec_of_deviceError hs ha]
      rfl
    · rw [updateExec_of_deviceOk hs ha]
      exact ⟨_, rfl, rfl, readCell_writeWave_addr (!s.activeSel) s.lDc (consulted s)⟩

/-- Settles O25: by the device state, then, where the port is released, the Device's answer. -/
theorem closeFollowsTheRule : Obligations.CloseFollowsTheRule := by
  refine ⟨rfl, fun s => ?_⟩
  rw [exec_cmdClose]
  refine ⟨fun hs => ?_, fun hs => ?_, fun hs => ⟨fun ha => ?_, fun c ha => ?_⟩⟩
  · rw [closeExec_of_nothing hs]
    rfl
  · rw [closeExec_of_streaming hs]
    exact ⟨_, rfl, rfl, readCell_writeZero_addr (!s.activeSel) s⟩
  · rw [closeExec_of_port hs, releasePort_of_deviceOk ha]
    rfl
  · rw [closeExec_of_port hs, releasePort_of_deviceError ha]
    rfl

end Sys2Proof.Proofs
end

section
/-! PROOF. What a completion leaves behind, and which step moves the device state and the result (41_commands.md R85,
R93, R95, R96). -/

namespace Sys2Proof.Machine

@[simp] theorem releasePort_devState (s : State) : (releasePort s).devState = .closed := by
  rw [releasePort_frame]

@[simp] theorem releasePort_phase (s : State) : (releasePort s).phase = .idle := by
  rw [releasePort_frame]

@[simp] theorem releasePort_lastOp (s : State) : (releasePort s).lastOp = opField s.lCmd := by
  rw [releasePort_frame]

theorem sequencerStep_of_closed {s : State} (hg : s.gate = false) : sequencerStep s = s :=
  if_neg (by simp [hg])

end Sys2Proof.Machine

namespace Sys2Proof.Safety

open Sys2Proof.Machine

theorem ticks_of_closed {s : State} (hg : s.gate = false) (n : Nat) : ticks n s = s := by
  induction n with
  | zero => rfl
  | succ n ih => rw [ticks, sequencerStep_of_closed hg, ih]

end Sys2Proof.Safety

namespace Sys2Proof.Proofs

open Sys2Proof.Machine Sys2Proof.Safety

/-- Settles O30: the step completes only once the swap is taken, and then the invariant has the active bank. -/
theorem completedUpdateIsActive : Obligations.CompletedUpdateIsActive := by
  intro s t hi hp hstep ht
  cases hs : s.swapPending with
  | true =>
    cases (controllerStep_of_swapPending hp hs).symm.trans hstep
    rw [hp] at ht
    cases ht
  | false =>
    cases (controllerStep_of_swapTaken hp hs).symm.trans hstep
    exact ⟨rfl, (hi.swapped_update hp hs).bankWave⟩

/-- Settles O31: the invariant has the lines low where the stream stopped; the completion leaves them and the gate, and
a closed gate stops the Sequencer. -/
theorem closedStreamLeavesTheLinesLow : Obligations.ClosedStreamLeavesTheLinesLow := by
  intro s hi hp hg ha
  have hstep : controllerStep s = .next (complete .ok (consulted (closeDevice s))) :=
    (controllerStep_of_gateClosed hp hg).trans (congrArg _ (releasePort_of_deviceOk ha))
  exact ⟨_, hstep, rfl, rfl, rfl, hi.stopped_low hp hg, ticks_of_closed hg⟩

/-- Settles O35: each move that writes DEV_STATE says from where; the CLOSE that waited was Streaming by the
invariant. -/
theorem deviceStateMovesAsTheTableSays : Obligations.DeviceStateMovesAsTheTableSays := by
  intro a s t hi h ha hne
  cases agentStep_move h with
  | resets => exact absurd rfl ha
  | badConfig _ hs | opens _ hs => rcases hs with e | e <;> simp [e]
  | deviceError c _ _ hc =>
    obtain ⟨-, e | e, -⟩ | ⟨-, e⟩ | ⟨-, e⟩ := hc <;> simp [e, failHardware]
  | starts _ hs => simp [hs]
  | releases _ hs => rcases hs with e | e <;> simp [e]
  | closeDone hp => simp [(hi.waitStop_command hp).2]
  | _ => exact absurd rfl hne

/-- Settles O60: the moves that write RESULT are the completions, each from a command in flight. -/
theorem resultIsWrittenOnlyAtCompletion : Obligations.ResultIsWrittenOnlyAtCompletion := by
  intro a s t h ha
  have uncompleted (hr : t.result = s.result) (hl : t.lastOp = s.lastOp) (hp : s.phase ≠ .idle → t.phase ≠ .idle)
      {P Q : Prop} :
      (t.result ≠ s.result ∨ t.lastOp ≠ s.lastOp → P) ∧ (s.phase ≠ .idle → t.phase = .idle → Q) :=
    ⟨fun hne => hne.elim (absurd hr) (absurd hl), fun hs ht => absurd ht (hp hs)⟩
  cases agentStep_move h with
  | resets => exact absurd rfl ha
  | illegal hp | rereport hp | wrongState hp | notStreaming hp | badConfig hp | deviceError _ hp | opens hp
  | starts hp | closesNothing hp | updateDone hp =>
    exact ⟨fun _ => ⟨rfl, by simp [hp], rfl⟩, fun _ _ => ⟨rfl, rfl⟩⟩
  | releases hp | closeDone hp =>
    exact ⟨fun _ => ⟨rfl, by simp [hp], releasePort_phase s⟩, fun _ _ => ⟨rfl, releasePort_lastOp s⟩⟩
  | updates | closesStream | hostAccept => exact uncompleted rfl rfl fun _ => nofun
  | _ => exact uncompleted rfl rfl id

end Sys2Proof.Proofs
end

section
/-! PROOF. Ticks in a row (42_sequencer.md R97, R98; 70 R138): to the end of the cycle the state is as it was but for
the index and the port, and the wrap is exactly CFG_N - SEQ_IDX ticks away. -/

namespace Sys2Proof.Machine

/-! ### One tick -/

/-- The same state elsewhere in its cycle: another index, and what a tick left on the port. -/
def atSample (i : BitVec 8) (v : Byte) (u : Bool) (s : State) : State :=
  { s with seqIdx := i, out := v, outUnknown := u }

theorem sequencerStep_of_inside {s : State} (hg : s.gate = true) (hw : atWrap s = false) :
    sequencerStep s = atSample (s.seqIdx + 1#8) (drivenByte s) false s := by
  simp [sequencerStep, tick, hg, hw, atSample]

theorem sequencerStep_of_swap {s : State} (hg : s.gate = true) (hw : atWrap s = true) (hp : s.swapPending = true) :
    sequencerStep s =
      { atSample 0#8 (drivenByte s) false s with activeSel := !s.activeSel, swapPending := false } := by
  simp [sequencerStep, tick, wrap, hg, hw, hp, atSample]

theorem sequencerStep_of_stop {s : State} (hg : s.gate = true) (hw : atWrap s = true) (hp : s.swapPending = false)
    (hr : s.stopReq = true) :
    sequencerStep s = { atSample 0#8 (drivenByte s) false s with gate := false, stopReq := false } := by
  simp [sequencerStep, tick, wrap, hg, hw, hp, hr, atSample]

/-- Whatever else a tick does, it drives the active bank's byte (R97). -/
theorem sequencerStep_out {s : State} (hg : s.gate = true) : (sequencerStep s).out = drivenByte s := by
  have h : Move .sequencer s (sequencerStep s) := sequencerStep_move s
  generalize sequencerStep s = t at h ⊢
  cases h with
  | gateClosed hc => rw [hg] at hc; cases hc
  | ticks | swaps | stops | repeats => rfl

end Sys2Proof.Machine

namespace Sys2Proof.Safety

open Sys2Proof.Machine

theorem ticks_succ (n : Nat) (s : State) : ticks (n + 1) s = sequencerStep (ticks n s) :=
  ticks_add n 1 s

theorem MachineInv.ticks {s : State} (hi : MachineInv s) (n : Nat) : MachineInv (ticks n s) := by
  induction n with
  | zero => exact hi
  | succ n ih =>
    rw [ticks_succ]
    exact ih.move (sequencerStep_move _)

/-! ### To the end of the cycle -/

section
variable {s : State} (hi : MachineInv s) (hg : s.gate = true)
include hi hg

/-- Inside the cycle, ticks move the index and the port and nothing else. -/
theorem MachineInv.ticks_inside {k : Nat} (hk : k < s.cfgN.toNat - s.seqIdx.toNat) :
    ∃ i v u, Safety.ticks k s = atSample i v u s ∧ i.toNat = s.seqIdx.toNat + k := by
  induction k with
  | zero => exact ⟨s.seqIdx, s.out, s.outUnknown, rfl, rfl⟩
  | succ k ih =>
    obtain ⟨i, v, u, e, hidx⟩ := ih (by omega)
    have hinv : MachineInv (atSample i v u s) := e ▸ hi.ticks k
    have hw : atWrap (atSample i v u s) = false := by
      have hne : i.toNat + 1 ≠ s.cfgN.toNat := by omega
      exact decide_eq_false hne
    have hidx' : (i + 1#8).toNat = i.toNat + 1 := hinv.seqIdx_succ hg hw
    refine ⟨i + 1#8, drivenByte (atSample i v u s), false, ?_, by omega⟩
    rw [ticks_succ, e, sequencerStep_of_inside (s := atSample i v u s) hg hw]
    rfl

/-- The last tick of the cycle is the wrap. -/
theorem MachineInv.ticks_to_wrap :
    ∃ i v u, Safety.ticks (s.cfgN.toNat - s.seqIdx.toNat) s = sequencerStep (atSample i v u s) ∧
      atWrap (atSample i v u s) = true := by
  have hx : s.seqIdx.toNat < s.cfgN.toNat := (hi.gate_streams hg).2
  obtain ⟨k, hk⟩ : ∃ k, s.cfgN.toNat - s.seqIdx.toNat = k + 1 := Nat.exists_eq_add_one.2 (by omega)
  obtain ⟨i, v, u, e, hidx⟩ := hi.ticks_inside hg (k := k) (by omega)
  have hlast : i.toNat + 1 = s.cfgN.toNat := by omega
  exact ⟨i, v, u, by rw [hk, ticks_succ, e], decide_eq_true hlast⟩

/-- With a swap pending, the end of the cycle takes it (R98(a)). -/
theorem MachineInv.ticks_swap (hp : s.swapPending = true) :
    ∃ v, Safety.ticks (s.cfgN.toNat - s.seqIdx.toNat) s =
      { atSample 0#8 v false s with activeSel := !s.activeSel, swapPending := false } := by
  obtain ⟨i, v, u, e, hw⟩ := hi.ticks_to_wrap hg
  exact ⟨_, e.trans (sequencerStep_of_swap (s := atSample i v u s) hg hw hp)⟩

/-- With no swap pending and a stop requested, the end of the cycle closes the gate (R98(b)). -/
theorem MachineInv.ticks_stop (hp : s.swapPending = false) (hr : s.stopReq = true) :
    (Safety.ticks (s.cfgN.toNat - s.seqIdx.toNat) s).gate = false := by
  obtain ⟨i, v, u, e, hw⟩ := hi.ticks_to_wrap hg
  rw [e, sequencerStep_of_stop (s := atSample i v u s) hg hw hp hr]

/-- Up to the end of the cycle the gate is open. -/
theorem MachineInv.ticks_inside_gate {k : Nat} (hk : k < s.cfgN.toNat - s.seqIdx.toNat) :
    (Safety.ticks k s).gate = true := by
  obtain ⟨i, v, u, e, -⟩ := hi.ticks_inside hg hk
  rw [e]
  exact hg

/-- Once a CLOSE's swap is taken, each tick up to the end of the cycle drives 0 (41 R95). -/
theorem MachineInv.ticks_inside_zero (hw : s.phase = .waitStop) (hp : s.swapPending = false) {k : Nat}
    (hk : k < s.cfgN.toNat - s.seqIdx.toNat) : (Safety.ticks (k + 1) s).out = 0#8 := by
  obtain ⟨i, v, u, e, -⟩ := hi.ticks_inside hg hk
  have hinv : MachineInv (atSample i v u s) := e ▸ hi.ticks k
  rw [ticks_succ, e, sequencerStep_out (s := atSample i v u s) hg, hinv.driven_zero hg hw hp]

end

end Sys2Proof.Safety

namespace Sys2Proof.Proofs

open Sys2Proof.Machine Sys2Proof.Safety

/-- Settles O40: inside the cycle by `ticks_inside`, at its end by `ticks_swap`. -/
theorem updateSwapsAtTheEndOfTheCycle : Obligations.UpdateSwapsAtTheEndOfTheCycle := by
  intro s hi _ hp
  have hg : s.gate = true := (hi.swap_waits hp).2
  have hx : s.seqIdx.toNat < s.cfgN.toNat := (hi.gate_streams hg).2
  refine ⟨⟨by omega, by omega⟩, fun k hk => ?_, ?_⟩
  · obtain ⟨i, v, u, e, hidx⟩ := hi.ticks_inside hg hk
    rw [e]
    exact ⟨hp, rfl, hidx⟩
  · obtain ⟨v, e⟩ := hi.ticks_swap hg hp
    rw [e]
    exact ⟨rfl, rfl, rfl, hg⟩

/-- Settles O41: the rest of this cycle ends in the swap, and the whole cycle after it, from index 0 of the all-zero
bank, in the stop. -/
theorem closeStopsAfterOneZeroCycle : Obligations.CloseStopsAfterOneZeroCycle := by
  intro s hi hw hp
  have hg : s.gate = true := (hi.swap_waits hp).2
  have hr : s.stopReq = true := hi.waitStop_requested hw hg
  have hx : s.seqIdx.toNat < s.cfgN.toNat := (hi.gate_streams hg).2
  have hswapped : MachineInv (ticks (s.cfgN.toNat - s.seqIdx.toNat) s) := hi.ticks _
  obtain ⟨v, e⟩ := hi.ticks_swap hg hp
  rw [e] at hswapped
  refine ⟨fun k hk => ?_, fun k hlo hhi => ?_, ?_, by omega, by omega⟩
  · obtain hlt | hge := Nat.lt_or_ge k (s.cfgN.toNat - s.seqIdx.toNat)
    · exact hi.ticks_inside_gate hg hlt
    · obtain ⟨j, rfl⟩ := Nat.exists_eq_add_of_le hge
      rw [ticks_add, e]
      exact hswapped.ticks_inside_gate hg (Nat.lt_of_add_lt_add_left hk)
  · obtain ⟨j, rfl⟩ := Nat.exists_eq_add_of_lt hlo
    have hj : j < s.cfgN.toNat := by omega
    rw [Nat.add_assoc, ticks_add, e]
    exact hswapped.ticks_inside_zero hg hw rfl hj
  · rw [ticks_add, e]
    exact hswapped.ticks_stop hg rfl hr

end Sys2Proof.Proofs
end

section
/-! PROOF. No step of an agent is refused while the Host's program is well-formed, and it stays so (30_encoding.md R59,
R65). -/

namespace Sys2Proof.Machine

/-- The decoder takes a well-formed descriptor. -/
theorem decodeHostbus_of_wellFormed {d : Descriptor} (h : descriptorWellFormed d = true) :
    ∃ i, decodeHostbus d = .ok i := by
  simp only [descriptorWellFormed, descriptorReservedZero, descriptorReadDataZero, Bool.and_eq_true, Bool.or_eq_true,
    beq_iff_eq] at h
  obtain ⟨hrsv, hdata⟩ := h
  obtain ⟨hn, -⟩ | ⟨-, -, e⟩ | ⟨-, -, -, e⟩ | ⟨-, hw, hn, -⟩ := decodeHostbus_cases d
  · exact absurd hrsv hn
  · exact ⟨_, e⟩
  · exact ⟨_, e⟩
  · exact absurd (hdata.resolve_left (Bool.eq_false_iff.1 hw)) hn

/-- No instruction traps (60 R110). -/
theorem exec_answers (i : Instr) (s : State) : ∃ t, exec i s = .next t := by
  cases i <;> exact ⟨_, rfl⟩

/-! ### What stays of the Host's program -/

theorem access_program {perform : Reg → State → State} {s : State} (hp : ∀ r, (perform r s).program = s.program)
    (w : Width) (off : Byte) : (access w off perform s).program = s.program := by
  unfold access
  split_ifs
  · cases regAt off with
    | some r => exact hp r
    | none => rfl
  · rfl
  · rfl

@[simp] theorem performRead_program (r : Reg) (s : State) : (performRead r s).program = s.program := by
  unfold performRead takeDraw
  split <;> rfl

@[simp] theorem performWrite_program (v : Word) (r : Reg) (s : State) :
    (performWrite v r s).program = s.program := by
  cases r
  case cmd =>
    by_cases hp : s.phase = .idle
    · simp [performWrite, writeReg, writeCmd_of_idle hp]
    · simp [performWrite, writeReg, writeCmd_of_busy hp]
  all_goals rfl

@[simp] theorem releasePort_program (s : State) : (releasePort s).program = s.program := by
  rw [releasePort_frame]

/-- Running a fetched descriptor leaves the rest of the program. -/
theorem hostAccess_program {d : Descriptor} {s t : State} (h : hostAccess d s = .next t) :
    t.program = s.program := by
  cases hd : decodeHostbus d with
  | error e => rw [hostAccess_of_malformed hd] at h; cases h
  | ok i =>
    rw [hostAccess_of_decode hd] at h
    obtain ⟨w, off, rfl⟩ | ⟨w, off, v, rfl⟩ := decodeHostbus_ok hd <;> cases h
    · exact access_program (fun r => performRead_program r s) w off
    · exact access_program (fun r => performWrite_program v r s) w off

/-- Only the Host's steps change its program. -/
theorem Move.program_of_ne_host {a : Agent} {s t : State} (h : Move a s t) (ha : a ≠ .host) :
    t.program = s.program := by
  cases h with
  | hostQuiet | hostArgument | hostOverrun | hostAccept => exact absurd rfl ha
  | releases | closeDone => exact releasePort_program s
  | _ => rfl

/-- A step brings no new operation into the Host's program. -/
theorem agentStep_program_subset {a : Agent} {s t : State} (h : agentStep a s = .next t) :
    t.program ⊆ s.program := by
  cases a with
  | host =>
    change hostStep s = .next t at h
    cases hp : s.program with
    | nil =>
      simp only [hostStep, hp] at h
      cases h
      simp [hp]
    | cons op rest =>
      cases op with
      | access d =>
        rw [hostStep_of_access hp] at h
        simp [hostAccess_program h]
      | wait =>
        rw [hostStep_of_wait hp, hostWait_eq] at h
        cases h
        dsimp only
        split <;> simp
  | controller | sequencer | reset =>
    rw [(agentStep_move h).program_of_ne_host nofun]
    exact List.Subset.refl _

end Sys2Proof.Machine

namespace Sys2Proof.Safety

open Sys2Proof.Machine

theorem ProgramWellFormed.step {a : Agent} {s t : State} (hw : ProgramWellFormed s)
    (h : agentStep a s = .next t) : ProgramWellFormed t :=
  fun op hop => hw op (agentStep_program_subset h hop)

/-- With a well-formed program every agent's step answers a next state. -/
theorem ProgramWellFormed.answers {s : State} (hw : ProgramWellFormed s) (a : Agent) :
    ∃ t, agentStep a s = .next t := by
  cases a with
  | host =>
    change ∃ t, hostStep s = .next t
    cases hp : s.program with
    | nil => exact ⟨s, by simp only [hostStep, hp]⟩
    | cons op rest =>
      cases op with
      | access d =>
        obtain ⟨i, hi⟩ := decodeHostbus_of_wellFormed (d := d) (hw (.access d) (by simp [hp]))
        rw [hostStep_of_access hp, hostAccess_of_decode hi]
        exact exec_answers i _
      | wait => exact ⟨_, hostStep_of_wait hp⟩
  | controller =>
    change ∃ t, controllerStep s = .next t
    unfold controllerStep executeStep
    split
    · exact ⟨_, rfl⟩
    · split
      · exact exec_answers _ s
      · exact ⟨_, rfl⟩
    · split <;> exact ⟨_, rfl⟩
    · split <;> exact ⟨_, rfl⟩
  | sequencer => exact ⟨_, rfl⟩
  | reset => exact ⟨_, rfl⟩

end Sys2Proof.Safety
end

section
/-! PROOF. Every command in flight completes under weak fairness (43_host_access.md R109, 70 R130): what is left of it
is counted, and the agent it waits for makes it less. -/

namespace Sys2Proof.Safety

open Sys2Proof.Machine

/-! ### What is left of the command in flight -/

/-- How many ticks the command in flight still waits: to the end of this cycle, and, where the all-zero bank has still
to be swapped in, one cycle more (41 R93, R95). -/
def ticksLeft (s : State) : Nat :=
  match s.phase with
  | .idle => 0
  | .exec => 0
  | .waitSwap => if s.swapPending then s.cfgN.toNat - s.seqIdx.toNat else 0
  | .waitStop =>
    if s.gate then s.cfgN.toNat - s.seqIdx.toNat + (if s.swapPending then s.cfgN.toNat else 0) else 0

/-- A bound on the ticks and Controller's steps left to the completion: 514 before the execute step, whose command may
then wait up to 512 ticks. -/
def workLeft (s : State) : Nat :=
  match s.phase with
  | .idle => 0
  | .exec => 514
  | .waitSwap => ticksLeft s + 1
  | .waitStop => ticksLeft s + 1

/-- The agent whose step the command in flight waits for. -/
def awaited (s : State) : Agent :=
  if ticksLeft s = 0 then .controller else .sequencer

theorem workLeft_of_exec {s : State} (hp : s.phase = .exec) : workLeft s = 514 := by
  simp [workLeft, hp]

theorem workLeft_of_idle {s : State} (hp : s.phase = .idle) : workLeft s = 0 := by
  simp [workLeft, hp]

theorem workLeft_of_wait {s : State} (hp : s.phase = .waitSwap ∨ s.phase = .waitStop) :
    workLeft s = ticksLeft s + 1 := by
  obtain e | e := hp <;> simp [workLeft, e]

theorem MachineInv.workLeft_le {s : State} (hi : MachineInv s) (hp : s.phase ≠ .exec) : workLeft s ≤ 513 := by
  have hn : s.cfgN.toNat ≤ 256 := hi.count_bounded
  cases e : s.phase with
  | idle => simp [workLeft_of_idle e]
  | exec => exact absurd e hp
  | waitSwap =>
    simp only [workLeft_of_wait (.inl e), ticksLeft, e]
    split <;> omega
  | waitStop =>
    simp only [workLeft_of_wait (.inr e), ticksLeft, e]
    split_ifs <;> omega

/-! ### Who makes it less -/

/-- While the Controller has no enabled step, a command in flight waits for the Sequencer (41 R84). -/
theorem MachineInv.ticksLeft_pos {s : State} (hi : MachineInv s) (hp : s.phase ≠ .idle)
    (he : controllerEnabled s = false) : 0 < ticksLeft s := by
  have inCycle (hg : s.gate = true) : s.seqIdx.toNat < s.cfgN.toNat := (hi.gate_streams hg).2
  cases e : s.phase with
  | idle => exact absurd e hp
  | exec => simp [controllerEnabled, e] at he
  | waitSwap =>
    have hs : s.swapPending = true := by simpa [controllerEnabled, e] using he
    have hx : s.seqIdx.toNat < s.cfgN.toNat := inCycle (hi.swap_waits hs).2
    simp only [ticksLeft, e, hs, if_true]
    omega
  | waitStop =>
    have hg : s.gate = true := by simpa [controllerEnabled, e] using he
    have hx : s.seqIdx.toNat < s.cfgN.toNat := inCycle hg
    simp only [ticksLeft, e, hg, if_true]
    omega

/-- Each turn of the Sequencer is one tick less to wait, if any is left. -/
theorem MachineInv.ticksLeft_sequencer {s t : State} (hi : MachineInv s) (h : Move .sequencer s t) :
    t.phase = s.phase ∧ ticksLeft t = ticksLeft s - 1 := by
  cases h with
  | gateClosed hg =>
    refine ⟨rfl, ?_⟩
    cases e : s.phase with
    | idle | exec => simp [ticksLeft, e]
    | waitSwap => simp [(hi.waitSwap_command e).2.2] at hg
    | waitStop => simp [ticksLeft, e, hg]
  | ticks hg hw =>
    refine ⟨rfl, ?_⟩
    have hidx : (s.seqIdx + 1#8).toNat = s.seqIdx.toNat + 1 := hi.seqIdx_succ hg hw
    have hx : s.seqIdx.toNat < s.cfgN.toNat := (hi.gate_streams hg).2
    cases e : s.phase with
    | idle | exec => simp [ticksLeft, e]
    | waitSwap => simp only [ticksLeft, e, hidx]; split <;> omega
    | waitStop => simp only [ticksLeft, e, hidx, hg, if_true]; omega
  | swaps hg hw hs =>
    refine ⟨rfl, ?_⟩
    have hx : s.seqIdx.toNat + 1 = s.cfgN.toNat := (atWrap_iff s).1 hw
    cases e : s.phase with
    | idle | exec => simp [ticksLeft, e]
    | waitSwap => simp only [ticksLeft, e, hs, if_true, Bool.false_eq_true, if_false]; omega
    | waitStop => simp only [ticksLeft, e, hs, hg, if_true, Bool.false_eq_true, if_false, BitVec.toNat_ofNat]; omega
  | stops hg hw hs hr =>
    refine ⟨rfl, ?_⟩
    have hx : s.seqIdx.toNat + 1 = s.cfgN.toNat := (atWrap_iff s).1 hw
    have hw : s.phase = .waitStop := (hi.stop_waits hr).1
    simp only [ticksLeft, hw, hs, hg, if_true, Bool.false_eq_true, if_false]
    omega
  | repeats hg hw hs hr =>
    refine ⟨rfl, ?_⟩
    cases e : s.phase with
    | idle | exec => simp [ticksLeft, e]
    | waitSwap => simp [ticksLeft, e, hs]
    | waitStop => simp [hi.waitStop_requested e hg] at hr

/-- An enabled step of the Controller is progress: it executes the command or completes it (41 R84, R85). -/
theorem MachineInv.workLeft_controller {s t : State} (hi : MachineInv s) (h : Move .controller s t) :
    workLeft t < workLeft s ∨ (controllerEnabled s = false ∧ t = s) := by
  have executed (hp : s.phase = .exec) (ht : t.phase ≠ .exec) : workLeft t < workLeft s :=
    workLeft_of_exec hp ▸ Nat.lt_succ_of_le ((hi.move h).workLeft_le ht)
  have completed (hp : s.phase = .waitSwap ∨ s.phase = .waitStop) (ht : t.phase = .idle) :
      workLeft t < workLeft s := by
    rw [workLeft_of_idle ht, workLeft_of_wait hp]
    exact Nat.succ_pos _
  cases h with
  | controllerNone he => exact .inr ⟨he, rfl⟩
  | illegal hp | rereport hp | wrongState hp | notStreaming hp | badConfig hp | deviceError _ hp | opens hp
  | starts hp | updates hp | closesNothing hp | closesStream hp => exact .inl (executed hp nofun)
  | releases hp => exact .inl (executed hp (by simp))
  | updateDone hp => exact .inl (completed (.inl hp) rfl)
  | closeDone hp => exact .inl (completed (.inr hp) (releasePort_phase s))

/-- Every step without a reset makes less of what is left, or leaves it and what is awaited; the awaited agent's makes
less. -/
theorem MachineInv.move_progress {a : Agent} {s t : State} (hi : MachineInv s) (hp : s.phase ≠ .idle)
    (h : Move a s t) (ha : a ≠ .reset) :
    workLeft t < workLeft s ∨ (a ≠ awaited s ∧ workLeft t = workLeft s ∧ awaited t = awaited s) := by
  cases a with
  | reset => exact absurd rfl ha
  | host =>
    have hne : Agent.host ≠ awaited s := by unfold awaited; split <;> decide
    cases h with
    | hostQuiet | hostArgument | hostOverrun => exact .inr ⟨hne, rfl, rfl⟩
    | hostAccept hidle => exact absurd hidle hp
  | controller =>
    obtain hlt | ⟨he, rfl⟩ := hi.workLeft_controller h
    · exact .inl hlt
    · have hpos : ticksLeft t ≠ 0 := (hi.ticksLeft_pos hp he).ne'
      exact .inr ⟨by simp [awaited, hpos], rfl, rfl⟩
  | sequencer =>
    obtain ⟨hphase, hticks⟩ := hi.ticksLeft_sequencer h
    by_cases h0 : ticksLeft s = 0
    · have hsame : ticksLeft t = ticksLeft s := by omega
      exact .inr ⟨by simp [awaited, h0], by simp [workLeft, hphase, hsame], by simp [awaited, hsame]⟩
    · have hwait : s.phase = .waitSwap ∨ s.phase = .waitStop := by
        cases e : s.phase <;> simp [ticksLeft, e] at h0 ⊢
      rw [workLeft_of_wait hwait, workLeft_of_wait (hphase ▸ hwait)]
      exact .inl (by omega)

/-! ### Schedules -/

/-- A schedule from its second move on. -/
def laterMoves (sch : Nat → Agent) (n : Nat) : Agent :=
  sch (n + 1)

theorem FairSchedule.laterMoves {sch : Nat → Agent} (hf : FairSchedule sch) : FairSchedule (laterMoves sch) := by
  have again {a : Agent} (h : ∀ n, ∃ m, n ≤ m ∧ sch m = a) (n : Nat) :
      ∃ m, n ≤ m ∧ Safety.laterMoves sch m = a := by
    obtain ⟨m, hm, e⟩ := h (n + 1)
    obtain ⟨k, rfl⟩ : ∃ k, m = k + 1 := Nat.exists_eq_add_one.2 (by omega)
    exact ⟨k, Nat.le_of_succ_le_succ hm, e⟩
  exact ⟨again hf.1, again hf.2⟩

theorem NoReset.laterMoves {sch : Nat → Agent} (hr : NoReset sch) : NoReset (laterMoves sch) :=
  fun n => hr (n + 1)

/-- A fair schedule comes to the awaited agent. -/
theorem FairSchedule.awaited_moves {sch : Nat → Agent} (hf : FairSchedule sch) (s : State) :
    ∃ m, sch m = awaited s := by
  unfold awaited
  split
  · exact (hf.1 0).imp fun _ h => h.2
  · exact (hf.2 0).imp fun _ h => h.2

/-- Some number of moves of the schedule completes the command in flight. -/
def Completes (sch : Nat → Agent) (s : State) : Prop :=
  ∃ n t, runSchedule sch n s = .next t ∧ t.phase = .idle

theorem Completes.of_idle {sch : Nat → Agent} {s : State} (hp : s.phase = .idle) : Completes sch s :=
  ⟨0, s, rfl, hp⟩

theorem runSchedule_succ {sch : Nat → Agent} {s t : State} (h : agentStep (sch 0) s = .next t) (n : Nat) :
    runSchedule sch (n + 1) s = runSchedule (laterMoves sch) n t := by
  rw [runSchedule, List.range_succ_eq_map, List.map_cons, List.map_map, runAgents, h]
  rfl

theorem Completes.after {sch : Nat → Agent} {s t : State} (h : agentStep (sch 0) s = .next t)
    (ht : Completes (laterMoves sch) t) : Completes sch s := by
  obtain ⟨n, u, hrun, hu⟩ := ht
  exact ⟨n + 1, u, (runSchedule_succ h n).trans hrun, hu⟩

/-- By recursion on what is left of the command and, within it, on how far off a move of the awaited agent is. -/
theorem MachineInv.completes {s : State} {sch : Nat → Agent} {m : Nat} (hi : MachineInv s) (hw : ProgramWellFormed s)
    (hf : FairSchedule sch) (hr : NoReset sch) (hm : sch m = awaited s) : Completes sch s := by
  by_cases hp : s.phase = .idle
  case pos => exact .of_idle hp
  case neg =>
    obtain ⟨t, ht⟩ := hw.answers (sch 0)
    have hmove : Move (sch 0) s t := agentStep_move ht
    refine .after ht ?_
    obtain hless | ⟨hne, hsame, hawait⟩ := hi.move_progress hp hmove (hr 0)
    · obtain ⟨k, hk⟩ := hf.laterMoves.awaited_moves t
      exact (hi.move hmove).completes (hw.step ht) hf.laterMoves hr.laterMoves hk
    · have hm0 : m ≠ 0 := fun h0 => hne (h0 ▸ hm)
      obtain ⟨k, hk⟩ : ∃ k, m = k + 1 := Nat.exists_eq_add_one.2 (Nat.pos_of_ne_zero hm0)
      have hlater : laterMoves sch k = awaited t := (hk ▸ hm : sch (k + 1) = awaited s).trans hawait.symm
      exact (hi.move hmove).completes (hw.step ht) hf.laterMoves hr.laterMoves hlater
termination_by (workLeft s, m)
decreasing_by
  · exact .left _ _ hless
  · rw [hsame]
    exact .right _ (by omega)

end Sys2Proof.Safety

namespace Sys2Proof.Proofs

open Sys2Proof.Safety

/-- Settles O52: a fair schedule comes to the awaited agent, and so to the completion. -/
theorem everyCommandCompletes : Obligations.EveryCommandCompletes := by
  intro s sch hi hw hf hr _
  obtain ⟨m, hm⟩ := hf.awaited_moves s
  exact hi.completes hw hf hr hm

end Sys2Proof.Proofs
end

section
/-! PROOF. One turn of the Sequencer (42_sequencer.md): the tick and the wrap (R97, R98), the closed gate (R100), and
the frame (R103). -/

namespace Sys2Proof.Machine

/-- The index comparison of the spec, over the integers (00 R10). -/
theorem atWrap_iff_int (s : State) : atWrap s = true ↔ (s.seqIdx.toNat : Int) = (s.cfgN.toNat : Int) - 1 :=
  (atWrap_iff s).trans (by omega)

theorem sequencerStep_of_repeat {s : State} (hg : s.gate = true) (hw : atWrap s = true) (hp : s.swapPending = false)
    (hr : s.stopReq = false) : sequencerStep s = atSample 0#8 (drivenByte s) false s := by
  simp [sequencerStep, tick, wrap, hg, hw, hp, hr, atSample]

end Sys2Proof.Machine

namespace Sys2Proof.Proofs

open Sys2Proof.Machine Sys2Proof.Safety

/-- Settles O36: one equation of the Sequencer's step inside the cycle, and one for each of the three kinds of wrap. -/
theorem tickFollowsTheRule : Obligations.TickFollowsTheRule := by
  intro s hg
  refine ⟨fun hne => ?_, fun heq => ?_⟩
  · have hw : atWrap s = false := Bool.eq_false_iff.2 (mt (atWrap_iff_int s).1 hne)
    exact congrArg _ (sequencerStep_of_inside hg hw)
  · have hw : atWrap s = true := (atWrap_iff_int s).2 heq
    exact ⟨fun hp => congrArg _ (sequencerStep_of_swap hg hw hp),
      fun hp hr => congrArg _ (sequencerStep_of_stop hg hw hp hr),
      fun hp hr => congrArg _ (sequencerStep_of_repeat hg hw hp hr)⟩

/-- Settles O37: the Sequencer has no enabled step while the gate is closed. -/
theorem closedGateStopsTheSequencer : Obligations.ClosedGateStopsTheSequencer :=
  fun _ hg => congrArg _ (sequencerStep_of_closed hg)

/-- Settles O38: none of the Sequencer's five moves writes anything else. -/
theorem sequencerWritesOnlyItsElements : Obligations.SequencerWritesOnlyItsElements := by
  intro s t h
  cases agentStep_move h with
  | gateClosed | ticks | swaps | stops | repeats => rfl

end Sys2Proof.Proofs
end

section
/-! PROOF. RD and WR register by register (43_host_access.md R106, R107). -/

namespace Sys2Proof.Machine

/-! ### Reads -/

/-- A read of any register but OUT changes only the response (R106). -/
theorem exec_rd_reg_of_ne_out {r : Reg} (hr : r ≠ .out) (s : State) :
    exec (.rd .b4 (regOffset r)) s = .next { s with bus := .data (readReg r s) } := by
  have hkeep : takeDraw r s = s := if_neg fun h => hr h.1
  rw [exec_rd_reg, performRead, hkeep]
  rfl

theorem exec_rd_out_of_known {s : State} (h : s.outUnknown = false) :
    exec (.rd .b4 (regOffset .out)) s = .next { s with bus := .data (s.out.setWidth 32) } := by
  have hread : readReg .out s = s.out.setWidth 32 := by simp [readReg, h]
  have hkeep : takeDraw .out s = s := by simp [takeDraw, h]
  rw [exec_rd_reg, performRead, hread, hkeep]
  rfl

/-- While the lines are unknown, a read of OUT returns a draw and takes it (R30, R106). -/
theorem exec_rd_out_of_unknown {s : State} (h : s.outUnknown = true) :
    exec (.rd .b4 (regOffset .out)) s =
      .next { s with bus := .data ((lineDraw s).setWidth 32), lines := s.lines.advance } := by
  have hread : readReg .out s = (lineDraw s).setWidth 32 := if_pos h
  have hdraw : takeDraw .out s = { s with lines := s.lines.advance } := if_pos ⟨rfl, h⟩
  rw [exec_rd_reg, performRead, hread, hdraw]
  rfl

/-! ### Writes -/

/-- The registers that ignore a write: the read-only ones and the two reserved ones (R31, R107). -/
def ignoringRegs : List Reg :=
  [.status, .errCode, .fault, .cfgPort, .cfgRate, .cfgN, .seqIdx, .out, .reserved38, .reserved3C]

theorem writeReg_of_ignoring {r : Reg} (hr : r ∈ ignoringRegs) (v : Word) (s : State) : writeReg r v s = s := by
  cases r with
  | cmd | portId | sampleRate | sampleCount | dcLo | dcHi => simp [ignoringRegs] at hr
  | status | errCode | fault | cfgPort | cfgRate | cfgN | seqIdx | out | reserved38 | reserved3C => rfl

theorem exec_wr_reg_of_ignoring {r : Reg} (hr : r ∈ ignoringRegs) (v : Word) (s : State) :
    exec (.wr .b4 (regOffset r) v) s = .next { s with bus := .written } := by
  rw [exec_wr_reg, performWrite, writeReg_of_ignoring hr]
  rfl

end Sys2Proof.Machine

namespace Sys2Proof.Proofs

open Sys2Proof.Machine Sys2Proof.Safety

/-- Settles O10: one equation for the fifteen registers that are not OUT, and two for OUT. -/
theorem hostReadFollowsTheRule : Obligations.HostReadFollowsTheRule := by
  intro s
  have hread (r : Reg) (hr : r ≠ .out) :
      exec (.rd .b4 (regOffset r)) s = .next { s with bus := .data (readReg r s) } := exec_rd_reg_of_ne_out hr s
  exact ⟨fun w off hin ha => (misalignedAccessGetsBusError s w off 0#32 hin ha).1,
    hread .cmd nofun, hread .status nofun, hread .errCode nofun, hread .fault nofun,
    hread .portId nofun, hread .sampleRate nofun, hread .sampleCount nofun,
    hread .dcLo nofun, hread .dcHi nofun, hread .cfgPort nofun, hread .cfgRate nofun,
    hread .cfgN nofun, hread .seqIdx nofun, exec_rd_out_of_known, exec_rd_out_of_unknown,
    hread .reserved38 nofun, hread .reserved3C nofun⟩

/-- Settles O16: CMD by its two phases, an argument register by its own field, and the rest ignore the write. -/
theorem hostWriteFollowsTheRule : Obligations.HostWriteFollowsTheRule := by
  intro s v
  refine ⟨fun w off hin ha => (misalignedAccessGetsBusError s w off v hin ha).2,
    cmdWriteIsAcceptedWhenIdle s v, cmdWriteIsDroppedWhenBusy s v,
    exec_wr_reg .portId v s, exec_wr_reg .sampleRate v s, exec_wr_reg .sampleCount v s,
    exec_wr_reg .dcLo v s, exec_wr_reg .dcHi v s, fun off hoff => ?_⟩
  have hreg : ∃ r ∈ ignoringRegs, off = regOffset r := by simpa [ignoringRegs, regOffset] using hoff
  obtain ⟨r, hr, rfl⟩ := hreg
  exact exec_wr_reg_of_ignoring hr v s

end Sys2Proof.Proofs
end

section
/-! PROOF. Faults (60_exceptions.md): the two entries into Faulted (R113, R114), where the Device is consulted (R112),
and the ways out of Faulted (R115). -/

namespace Sys2Proof.Machine

/-! ### Entering Faulted (R113) -/

/-- The two ways a command enters Faulted: OPEN's configuration check, and a Device error. -/
inductive FaultEntry (s : State) : State → Prop where
  | configuration : FaultEntry s (complete .configurationError (enterFaulted .configurationError none s))
  | hardware {c : Word} (ha : deviceAnswer s = some c) : FaultEntry s (failHardware c (consulted s))

section
variable {s : State} (hf : s.devState ≠ .faulted)
include hf

theorem openExec_faultEntry (ht : (openExec s).devState = .faulted) : FaultEntry s (openExec s) := by
  by_cases hs : s.devState = .unopened ∨ s.devState = .closed
  case neg => rw [openExec_of_wrongState hs] at ht; exact absurd ht hf
  case pos =>
    by_cases hl : configLegal s = true
    case neg => rw [openExec_of_badConfig hs hl]; exact .configuration
    case pos =>
      cases ha : deviceAnswer s with
      | none => rw [openExec_of_deviceOk hs hl ha] at ht; cases ht
      | some c => rw [openExec_of_deviceError hs hl ha]; exact .hardware ha

theorem startExec_faultEntry (ht : (startExec s).devState = .faulted) : FaultEntry s (startExec s) := by
  by_cases hs : s.devState = .opened
  case neg => rw [startExec_of_wrongState hs] at ht; exact absurd ht hf
  case pos =>
    cases ha : deviceAnswer s with
    | none => rw [startExec_of_deviceOk hs ha] at ht; cases ht
    | some c => rw [startExec_of_deviceError hs ha]; exact .hardware ha

theorem updateExec_faultEntry (ht : (updateExec s).devState = .faulted) : FaultEntry s (updateExec s) := by
  by_cases hs : s.devState = .streaming
  case neg => rw [updateExec_of_notStreaming hs] at ht; exact absurd ht hf
  case pos =>
    cases ha : deviceAnswer s with
    | none => rw [updateExec_of_deviceOk hs ha] at ht; exact absurd ht hf
    | some c => rw [updateExec_of_deviceError hs ha]; exact .hardware ha

end

/-- CLOSE leads to Faulted from no state (R94). -/
theorem closeExec_devState_ne_faulted (s : State) : (closeExec s).devState ≠ .faulted := by
  cases hs : s.devState with
  | unopened => simp [closeExec_of_nothing (.inr hs), hs]
  | closed => simp [closeExec_of_nothing (.inl hs), hs]
  | streaming => simp [closeExec_of_streaming hs, hs]
  | opened => simp [closeExec_of_port (.inl hs)]
  | faulted => simp [closeExec_of_port (.inr hs)]

/-- A host access is a step of the Host whose program begins with it, and so leaves DEV_STATE (20_memory.md R41,
R48). -/
theorem exec_access_devState {i : Instr} {d : Descriptor} {s t : State} (hi : encode i = .hostbus d)
    (h : exec i s = .next t) : t.devState = s.devState := by
  have hdec : decode (.hostbus d) = some i := hi ▸ Proofs.decodeInvertsEncode i
  have hrun : hostAccess d s = .next t := (hostAccess_of_decode (ok_of_toOption_eq_some hdec) s).trans h
  have hhost : agentStep .host (afterFetch (.access d :: s.program) s) = .next t :=
    (hostStep_of_access (afterFetch_program _ s)).trans hrun
  rw [Proofs.hostStepsTouchOnlyTheirRegisters _ _ hhost, afterFetch_devState]

/-- An instruction that takes the device to Faulted does so by one of the two entries. -/
theorem exec_faultEntry {i : Instr} {s t : State} (h : exec i s = .next t) (hf : s.devState ≠ .faulted)
    (ht : t.devState = .faulted) : FaultEntry s t := by
  cases i with
  | cmdOpen => cases (exec_cmdOpen hf).symm.trans h; exact openExec_faultEntry hf ht
  | cmdStart => cases (exec_cmdStart hf).symm.trans h; exact startExec_faultEntry hf ht
  | cmdUpdate => cases (exec_cmdUpdate hf).symm.trans h; exact updateExec_faultEntry hf ht
  | cmdClose => cases (exec_cmdClose s).symm.trans h; exact absurd ht (closeExec_devState_ne_faulted s)
  | rd | wr => exact absurd ((exec_access_devState rfl h).symm.trans ht) hf

/-! ### Consulting the Device (R112) -/

/-- The places where R112 has the Controller's step consult the Device. -/
def ConsultsDevice (s : State) : Prop :=
  (s.phase = .exec ∧
    ((s.lCmd = 1#32 ∧ (s.devState = .unopened ∨ s.devState = .closed) ∧ configLegal s = true) ∨
      (s.lCmd = 2#32 ∧ s.devState = .opened) ∨ (s.lCmd = 3#32 ∧ s.devState = .streaming) ∨
      (s.lCmd = 4#32 ∧ (s.devState = .opened ∨ s.devState = .faulted)))) ∨
  (s.phase = .waitStop ∧ s.gate = false)

theorem openExec_device {s : State} (hs : s.devState = .unopened ∨ s.devState = .closed)
    (hl : configLegal s = true) : (openExec s).device = s.device.advance := by
  cases ha : deviceAnswer s with
  | none => rw [openExec_of_deviceOk hs hl ha]; rfl
  | some c => rw [openExec_of_deviceError hs hl ha]; rfl

theorem startExec_device {s : State} (hs : s.devState = .opened) : (startExec s).device = s.device.advance := by
  cases ha : deviceAnswer s with
  | none => rw [startExec_of_deviceOk hs ha]; rfl
  | some c => rw [startExec_of_deviceError hs ha]; rfl

theorem updateExec_device {s : State} (hs : s.devState = .streaming) :
    (updateExec s).device = s.device.advance := by
  cases ha : deviceAnswer s with
  | none => rw [updateExec_of_deviceOk hs ha]; rfl
  | some c => rw [updateExec_of_deviceError hs ha]; rfl

@[simp] theorem releasePort_device (s : State) : (releasePort s).device = s.device.advance := by
  rw [releasePort_frame]

/-- In each of R112's places the Controller's step takes an answer. -/
theorem ConsultsDevice.controllerStep_device {s : State} (h : ConsultsDevice s) :
    ∃ t, controllerStep s = .next t ∧ t.device = s.device.advance := by
  have executed {i : Instr} (hp : s.phase = .exec) (hc : decodeCmd s.lCmd = .ok i) :
      controllerStep s = exec i s := (controllerStep_of_exec hp).trans (executeStep_of_decode hc)
  obtain ⟨hp, ⟨hc, hs, hl⟩ | ⟨hc, hs⟩ | ⟨hc, hs⟩ | ⟨hc, hs⟩⟩ | ⟨hp, hg⟩ := h
  · have hf : s.devState ≠ .faulted := by rcases hs with e | e <;> simp [e]
    exact ⟨_, (executed hp (hc ▸ rfl)).trans (exec_cmdOpen hf), openExec_device hs hl⟩
  · exact ⟨_, (executed hp (hc ▸ rfl)).trans (exec_cmdStart (by simp [hs])), startExec_device hs⟩
  · exact ⟨_, (executed hp (hc ▸ rfl)).trans (exec_cmdUpdate (by simp [hs])), updateExec_device hs⟩
  · refine ⟨_, (executed hp (hc ▸ rfl)).trans (exec_cmdClose s), ?_⟩
    rw [closeExec_of_port hs, releasePort_device]
  · exact ⟨_, controllerStep_of_gateClosed hp hg, releasePort_device s⟩

/-- A move takes one answer of the Device, in one of R112's places, or none. -/
theorem Move.device {a : Agent} {s t : State} (h : Move a s t) :
    (t.device = s.device.advance ∧ a = .controller ∧ ConsultsDevice s) ∨ t.device = s.device := by
  cases h with
  | deviceError c hp _ hc => exact .inl ⟨rfl, rfl, .inl ⟨hp, hc.imp_right (·.imp_right .inl)⟩⟩
  | opens hp hs hc hl => exact .inl ⟨rfl, rfl, .inl ⟨hp, .inl ⟨hc, hs, hl⟩⟩⟩
  | starts hp hs hc => exact .inl ⟨rfl, rfl, .inl ⟨hp, .inr (.inl ⟨hc, hs⟩)⟩⟩
  | updates hp hs hc => exact .inl ⟨rfl, rfl, .inl ⟨hp, .inr (.inr (.inl ⟨hc, hs⟩))⟩⟩
  | releases hp hs hc =>
    exact .inl ⟨releasePort_device s, rfl, .inl ⟨hp, .inr (.inr (.inr ⟨hc, hs⟩))⟩⟩
  | closeDone hp hg => exact .inl ⟨releasePort_device s, rfl, .inr ⟨hp, hg⟩⟩
  | _ => exact .inr rfl

end Sys2Proof.Machine

namespace Sys2Proof.Proofs

open Sys2Proof.Machine Sys2Proof.Safety

/-- Settles O8: each arm of `exec` is a next state. -/
theorem everyInstructionAnswersANextState : Obligations.EveryInstructionAnswersANextState :=
  exec_answers

/-- Settles O32: Faulted is entered in two ways, and either is the fault entry and `complete`, nothing else. -/
theorem faultsArePrecise : Obligations.FaultsArePrecise := by
  intro s t i h hf ht
  cases exec_faultEntry h hf ht with
  | configuration => exact ⟨rfl, fun _ => ⟨rfl, rfl, rfl⟩, nofun, .inl rfl, rfl⟩
  | hardware ha => exact ⟨rfl, nofun, fun _ => ⟨ha, rfl⟩, .inr rfl, rfl⟩

/-- Settles O33: a move that takes an answer stands in one of R112's places, and in each of them the step takes one. -/
theorem deviceIsConsultedExactlyThere : Obligations.DeviceIsConsultedExactlyThere := by
  intro a s t h
  rw [← configLegal_iff]
  have hplace : a = .controller ∧ ConsultsDevice s → t.device = s.device.advance := by
    rintro ⟨rfl, hc⟩
    obtain ⟨t', h', hadv⟩ := hc.controllerStep_device
    cases h'.symm.trans h
    exact hadv
  obtain ⟨hadv, hwhere⟩ | hkept := (agentStep_move h).device
  · exact ⟨⟨fun _ => hwhere, hplace⟩, .inl hadv⟩
  · exact ⟨⟨fun hadv => absurd (hkept.symm.trans hadv) (supply_ne_advance _), hplace⟩, .inr hkept⟩

/-- Settles O34: of the moves that start in Faulted, CLOSE's execute step and the reset leave it; the invariant has a
CLOSE that waits Streaming. -/
theorem faultedIsLeftOnlyByCloseOrReset : Obligations.FaultedIsLeftOnlyByCloseOrReset := by
  intro a s t hi hf h hne
  cases agentStep_move h with
  | resets => exact .inl rfl
  | releases hp _ hc => exact .inr ⟨rfl, hp, hc, releasePort_devState s⟩
  | closeDone hp => cases hf.symm.trans (hi.waitStop_command hp).2
  | opens _ hs => rw [hf] at hs; obtain e | e := hs <;> cases e
  | starts _ hs => cases hf.symm.trans hs
  | badConfig | deviceError => exact absurd rfl hne
  | _ => exact absurd hf hne

end Sys2Proof.Proofs
end

section
/-! PROOF. What a tick drives was written (70_reset_and_hazards.md R128): with the gate open the index is in force and
the active bank is written whole. -/

namespace Sys2Proof.Machine

/-- With the gate open, whatever a wrap adds, the tick drives the active bank's byte and the lines are known (R97). -/
theorem Move.sequencer_drives {s t : State} (h : Move .sequencer s t) (hg : s.gate = true) :
    t.out = drivenByte s ∧ t.outUnknown = false := by
  cases h with
  | gateClosed hc => exact absurd hg (by simp [hc])
  | ticks | swaps | stops | repeats => exact ⟨rfl, rfl⟩

end Sys2Proof.Machine

namespace Sys2Proof.Safety

open Sys2Proof.Machine

/-- With the gate open, the cell at the active bank's index was written, and holds the byte the next tick drives. -/
theorem MachineInv.driven_written {s : State} (hi : MachineInv s) (hg : s.gate = true) :
    readCell s.banks (bankAddr s.activeSel s.seqIdx.toNat) = some (drivenByte s) := by
  obtain ⟨hs, hx⟩ := hi.gate_streams hg
  obtain ⟨d, hd⟩ := hi.active_written hs
  rw [hd.driven hx]
  exact hd _ hx

end Sys2Proof.Safety

namespace Sys2Proof.Proofs

open Sys2Proof.Machine Sys2Proof.Safety

/-- Settles O39: the tick drives the byte of the active bank's cell, and the invariant has that cell written. -/
theorem onlyWrittenBytesAreDriven : Obligations.OnlyWrittenBytesAreDriven := by
  intro s t hi hg h
  obtain ⟨hout, hknown⟩ := (agentStep_move h).sequencer_drives hg
  exact ⟨hout ▸ hi.driven_written hg, hknown⟩

end Sys2Proof.Proofs
end
